-- ==== Sys2Proof/Word.lean ====
section
/-! DEFINITION. The words the KX-412 handles: bytes, tags, stations, coupler time and counts
(spec/00_scope.md 5.1 to 5.4, spec/12_encodings.md). Only widths are fixed here; what is done with the words
stands under Sys2Proof/Machine/. -/

namespace Sys2Proof

/-- One byte on the bus. -/
abbrev Byte := BitVec 8

/-- A tag zone:item as the 20-bit value of R4: zone in bits 19 to 14, item in bits 13 to 0. -/
abbrev Tag := BitVec 20

/-- A station number, 0 to 4095 (spec/00_scope.md 5.2). -/
abbrev Station := BitVec 12

/-- Coupler time, or a deadline in it: the wrapping 32-bit millisecond count of spec/00_scope.md 5.4. -/
abbrev CTime := BitVec 32

/-- A 32-bit saturating count (R14, R31, R50, R68, R93, R116, R131, R142, R160, R185). -/
abbrev Counter := BitVec 32

/-- A frame's class, 3 the most urgent. -/
abbrev FClass := BitVec 2

/-- A frame's remaining hop count. -/
abbrev Hop := BitVec 3

/-- Bytes of a payload or of a command's arguments. -/
abbrev Payload := List Byte

/-- Station 0, which means broadcast. -/
def stationBroadcast : Station := 0

/-- Station 4095, which means none. -/
def stationNone : Station := 4095

end Sys2Proof
end

