-- ==== Sys2Proof/Config.lean ====
section
/-! DEFINITION. What the part fixes for good (sizes, times and codes that are no parameters), and the values that
spec/ leaves open, as constants without a body. -/

namespace Sys2Proof

/-- Steering entries of one bank (R1). -/
def Config.entries : Nat := 64

/-- Records of the tag memory (R33). -/
def Config.records : Nat := 48

/-- Entries the outstanding query list holds at most (R52). -/
def Config.outstanding : Nat := 16

/-- Slots of the frame pool (R70). -/
def Config.poolSlots : Nat := 48

/-- Reports the report list holds at most (R178). -/
def Config.reports : Nat := 8

/-- Sends a report has before it is given up (R181). -/
def Config.reportSends : Nat := 4

/-- Longest payload of a frame (R96). -/
def Config.payload : Nat := 24

/-- Most argument bytes of a management message (8.1, R146). -/
def Config.arguments : Nat := 20

/-- The line-wait bound of R100, in ms. -/
def Config.lineWait : CTime := 20

/-- The idle time of a table transfer (Table 9-1), in ms. -/
def Config.transferIdle : CTime := 2000

/-- The retry interval of a report (R180), in ms. -/
def Config.reportRetry : CTime := 250

/-- The earliest completion of an image write after its STORE (R188), in ms. -/
def Config.storeEarliest : CTime := 200

/-- Milliseconds in one second of lease (R149). -/
def Config.leaseUnit : CTime := 1000

/-- Health score at or above which an ACTIVE side is WARNED (R104). -/
def Config.scoreWarned : Nat := 96

/-- Health score at or below which a WARNED side is ACTIVE again (R105). -/
def Config.scoreActive : Nat := 64

/-- Health score at or above which a side is SILENT (R106). -/
def Config.scoreSilent : Nat := 192

/-- The highest health score (R102). -/
def Config.scoreTop : Nat := 255

/-- What NOACK and LINE_ERROR add to the health score (R102). -/
def Config.scoreFailure : Nat := 8

/-- Queries an outstanding entry counts at most (Table 3-1). -/
def Config.coalescedTop : Nat := 255

/-- The part code that IDENTIFY returns (Table 12-12). -/
def Config.partCode : BitVec 16 := 0x0412

/-- The design revision that IDENTIFY returns (Table 12-12). -/
def Config.revision : Byte := 0x01

/-- A byte of a response that spec/ gives no value: the `n`-th such byte sent (log entry 2, DESIGN CHOICE). It has no
body, so a claim holds for every value of it. -/
opaque Config.freeByte : Nat → Byte

/-- Whether a READ_STATUS sent by the session owner shows the lease deadline and the last command side as its own
renewal leaves them (log entry 3, DESIGN CHOICE): spec/ does not order the reading and the renewal inside the one
event. -/
opaque Config.statusShowsRenewal : Bool

end Sys2Proof
end

