-- ==== Sys2Proof/Syntax.lean ====
section
/-! DEFINITION. The commands and events of the KX-412: one constructor of `Instr` for each row of
spec/opcode_table.json, with what the outside gives that row. -/

namespace Sys2Proof

/-- The two segments and the ports that face them (spec/00_scope.md 5.3). -/
inductive Side where
  | a
  | b
  deriving DecidableEq, Repr

/-- How an attempt ended on the line (Table 5-2). -/
inductive LineOutcome where
  | sent
  | lost
  | noack
  | lineError
  deriving DecidableEq, Repr

/-- The frame a management message for the coupler arrives in: the side it is received on, its source station, and
the frame fields that only forwarding reads (class, hop, Reply bit). -/
structure Arrival where
  side   : Side
  source : Station
  cls    : FClass
  hop    : Hop
  reply  : Bool
  deriving DecidableEq, Repr

/-- The steps of the KX-412. Pin, line, timer and image-store events carry what the outside shows the part; a command
row is the arrival of a good MGMT frame that carries that command (log entry 4, DEDUCED): `m` is the frame, `seq` the
message's sequence number and `args` its argument bytes. -/
inductive Instr where
  /-- RST_N is taken low (R190). -/
  | rstNLow
  /-- Power is lost (R189). -/
  | powerLoss
  /-- Power-on, or release of RST_N (R190): the straps as read, and whether the check value of slot 0 and of slot 1
  still agrees with the slot's contents. -/
  | startUp (strap : BitVec 4) (failmodeHigh : Bool) (checks0 checks1 : Bool)
  /-- The STARTING state ends (R192): whether a frame is in progress on segment A and on segment B (R114); none is where
  the row does not say so. -/
  | startingEnd (busyA busyB : Bool := false)
  /-- A reception ends at a port (R96): the bytes the line carried. -/
  | reception (side : Side) (bytes : List Byte)
  /-- Transmitter selection (R78). -/
  | transmitterSelection (side : Side)
  /-- The line has not become free within 20 ms (R100). -/
  | lineWaitExpiry (side : Side)
  /-- An attempt ends (R101). -/
  | attemptCompletion (side : Side) (outcome : LineOutcome)
  /-- The recovery deadline of a side (R107). -/
  | recoveryDeadline (side : Side)
  /-- The age deadline of the frame at a place of a side's queue, 0 the first (R83). -/
  | ageDeadline (side : Side) (place : Nat)
  /-- The freshness deadline of a record (R47). -/
  | freshnessDeadline (record : Fin 48)
  /-- The deadline of the entry at a place of the outstanding list, 0 the oldest (R63). -/
  | queryEntryDeadline (place : Nat)
  /-- The window deadline of the trip unit (R136). -/
  | windowDeadline
  /-- The lease deadline (R151). -/
  | leaseDeadline
  /-- The idle deadline of a table transfer (R170). -/
  | idleDeadline
  /-- The retry deadline of the outstanding report (R181). -/
  | retryDeadline
  /-- The image write ends, its verify passed or failed (R188). -/
  | storeCompletion (verified : Bool)
  /-- An ACK message addressed to the coupler (R182). -/
  | ack (m : Arrival) (seq : Byte)
  /-- A MGMT payload shorter than the header or of unknown type, addressed to the coupler or broadcast (R143). -/
  | badMessage (m : Arrival) (toAll : Bool) (payload : Payload)
  /-- A RESPONSE or REPORT addressed to the coupler, or a broadcast other than IDENTIFY (R143). -/
  | ignoredMessage (m : Arrival) (toAll : Bool) (payload : Payload)
  /-- A command code naming no command (R144). -/
  | unknownCommand (m : Arrival) (seq code : Byte) (args : Payload)
  /-- IDENTIFY, addressed or broadcast (R157). -/
  | identify (m : Arrival) (toAll : Bool) (seq : Byte) (args : Payload)
  /-- OPEN (R148). -/
  | openSession (m : Arrival) (seq : Byte) (args : Payload)
  /-- CLOSE (R150). -/
  | closeSession (m : Arrival) (seq : Byte) (args : Payload)
  /-- READ_STATUS (R158). -/
  | readStatus (m : Arrival) (seq : Byte) (args : Payload)
  /-- READ_COUNTERS (R159). -/
  | readCounters (m : Arrival) (seq : Byte) (args : Payload)
  /-- CLEAR_COUNTERS (R159). -/
  | clearCounters (m : Arrival) (seq : Byte) (args : Payload)
  /-- READ_ENTRY (R123). -/
  | readEntry (m : Arrival) (seq : Byte) (args : Payload)
  /-- WRITE_ENTRY (R120). -/
  | writeEntry (m : Arrival) (seq : Byte) (args : Payload)
  /-- WRITE_MASKS_DEFAULTS (R121). -/
  | writeMasksDefaults (m : Arrival) (seq : Byte) (args : Payload)
  /-- COPY_ACTIVE (R122). -/
  | copyActive (m : Arrival) (seq : Byte) (args : Payload)
  /-- COMMIT (R124). -/
  | commit (m : Arrival) (seq : Byte) (args : Payload)
  /-- LOAD_BEGIN (R164). -/
  | loadBegin (m : Arrival) (seq : Byte) (args : Payload)
  /-- LOAD_PART (R165). -/
  | loadPart (m : Arrival) (seq : Byte) (args : Payload)
  /-- LOAD_END (R169). -/
  | loadEnd (m : Arrival) (seq : Byte) (args : Payload)
  /-- READ_RECORD (R49). -/
  | readRecord (m : Arrival) (seq : Byte) (args : Payload)
  /-- FLUSH_RECORDS (R48). -/
  | flushRecords (m : Arrival) (seq : Byte) (args : Payload)
  /-- READ_QUERIES (R67). -/
  | readQueries (m : Arrival) (seq : Byte) (args : Payload)
  /-- CANCEL_TAG (R86). -/
  | cancelTag (m : Arrival) (seq : Byte) (args : Payload)
  /-- SIDE_CONTROL with action OFF (R109): the side code it carries. -/
  | sideControlOff (m : Arrival) (seq : Byte) (target : Byte)
  /-- SIDE_CONTROL with action ON (R110). -/
  | sideControlOn (m : Arrival) (seq : Byte) (target : Byte)
  /-- SIDE_CONTROL with action RECOVER (R108). -/
  | sideControlRecover (m : Arrival) (seq : Byte) (target : Byte)
  /-- SET_CONFIG (R156). -/
  | setConfig (m : Arrival) (seq : Byte) (args : Payload)
  /-- READ_CONFIG (R155). -/
  | readConfig (m : Arrival) (seq : Byte) (args : Payload)
  /-- SET_TRIP (R140). -/
  | setTrip (m : Arrival) (seq : Byte) (args : Payload)
  /-- RELEASE_TRIP (R139). -/
  | releaseTrip (m : Arrival) (seq : Byte) (args : Payload)
  /-- READ_EVENTS (R185). -/
  | readEvents (m : Arrival) (seq : Byte) (args : Payload)
  /-- CLEAR_EVENTS (R176). -/
  | clearEvents (m : Arrival) (seq : Byte) (args : Payload)
  /-- ENABLE_EVENTS (R177). -/
  | enableEvents (m : Arrival) (seq : Byte) (args : Payload)
  /-- STORE (R187). -/
  | store (m : Arrival) (seq : Byte) (args : Payload)
  /-- RESTART (R161). -/
  | restart (m : Arrival) (seq : Byte) (args : Payload)
  deriving DecidableEq, Repr

end Sys2Proof
end

