-- ==== Sys2Proof/WellFormed.lean ====
section
/-! DEFINITION. Which commands the bus can carry: the argument length a message allows (8.1) and, for the rows that
stand for a class of messages, that the message belongs to the class (R143, R144). -/

namespace Sys2Proof

/-- The code names a command of Table 12-3. -/
def knownCode (code : Byte) : Bool := 0x01 ≤ code && code ≤ 0x1C

/-- A payload shorter than the 4-byte message header, or of a type that is none of the four (R143). -/
def badHeader (payload : Payload) : Bool :=
  match payload with
  | t :: _ :: _ :: _ :: _ => 0x03 < t
  | _ => true

/-- A message with a good header that the agent ignores (R143): addressed, a RESPONSE or a REPORT; broadcast,
anything but a COMMAND IDENTIFY. -/
def ignorable (toAll : Bool) (payload : Payload) : Bool :=
  match payload with
  | t :: _ :: code :: _ :: _ =>
    if toAll then t ≤ 0x03 && !(t == 0x00 && code == 0x01) else t == 0x01 || t == 0x02
  | _ => false

/-- The arguments fit a management message. -/
def argsFit (args : Payload) : Bool := args.length ≤ Config.arguments

/-- The command is one the bus can carry. Operands that a command's own rule judges (a lease of 0, an index above 63,
a wrong argument length) are no part of it: those commands run and are answered. -/
def Instr.wellFormed : Instr → Bool
  | .rstNLow | .powerLoss | .startUp _ _ _ _ | .startingEnd _ _ | .reception _ _ | .transmitterSelection _
  | .lineWaitExpiry _ | .attemptCompletion _ _ | .recoveryDeadline _ | .ageDeadline _ _ | .freshnessDeadline _
  | .queryEntryDeadline _ | .windowDeadline | .leaseDeadline | .idleDeadline | .retryDeadline | .storeCompletion _
  | .ack _ _ | .sideControlOff _ _ _ | .sideControlOn _ _ _ | .sideControlRecover _ _ _ => true
  | .badMessage _ _ payload => payload.length ≤ Config.payload && badHeader payload
  | .ignoredMessage _ toAll payload => payload.length ≤ Config.payload && ignorable toAll payload
  | .unknownCommand _ _ code args => argsFit args && !knownCode code
  | .identify _ _ _ args => argsFit args
  | .openSession _ _ args | .closeSession _ _ args | .readStatus _ _ args | .readCounters _ _ args
  | .clearCounters _ _ args | .readEntry _ _ args | .writeEntry _ _ args | .writeMasksDefaults _ _ args
  | .copyActive _ _ args | .commit _ _ args | .loadBegin _ _ args | .loadPart _ _ args | .loadEnd _ _ args
  | .readRecord _ _ args | .flushRecords _ _ args | .readQueries _ _ args | .cancelTag _ _ args
  | .setConfig _ _ args | .readConfig _ _ args | .setTrip _ _ args | .releaseTrip _ _ args | .readEvents _ _ args
  | .clearEvents _ _ args | .enableEvents _ _ args | .store _ _ args | .restart _ _ args => argsFit args

end Sys2Proof
end

