-- ==== Sys2Proof/Decode.lean ====
section
/-! DEFINITION. The command a word of the opcode table spells. No row of spec/opcode_table.json has bits (every
"fields" is empty and no row has "fixed"): the table lists steps of the part, not encodings. The byte layouts of the
bus frames that carry commands are spec/12_encodings.md's; they are read by Machine/Reception.lean. -/

namespace Sys2Proof

/-- No word spells a row of the table, since the table gives no row any bits. -/
def decodeTableWord (_nbits _w : Nat) : Option Instr := none

end Sys2Proof
end

