-- ==== Sys2Proof/Machine/State.lean ====
section
/-! DEFINITION. The state of the KX-412 as plain data, block by block in the order of Table 2-1 of spec/00_scope.md,
and the machine right after a factory start-up. -/

namespace Sys2Proof.Machine

/-- Why a step stops. -/
inductive Fault where
  /-- Raised by `exec` for a command that is not well formed (`Instr.wellFormed`): no frame on the bus can carry it.
  Safe: the part is never given such a command. -/
  | illFormed
  deriving DecidableEq, Repr

/-- Why a step gives no meaning. -/
inductive Refusal where
  /-- An arm of `exec` whose row has no meaning. No arm answers it. Safe. -/
  | notModelled (mnemonic : String)
  deriving DecidableEq, Repr

/-- One value for each side. -/
structure PerSide (α : Type) where
  a : α
  b : α
  deriving DecidableEq, Repr

/-- The four event groups (Table 10-1). -/
inductive Group where
  | port
  | table
  | traffic
  | guard
  deriving DecidableEq, Repr

/-- One value for each event group. -/
structure PerGroup (α : Type) where
  port    : α
  table   : α
  traffic : α
  guard   : α
  deriving DecidableEq, Repr

/-! ## Steering banks (spec/01) -/

/-- How an entry compares tags (R4). -/
inductive MatchMode where
  | exact
  | mask (n : Fin 4)
  | any
  deriving DecidableEq, Repr

/-- What is done with a claimed frame (R5). -/
inductive Action where
  | pass
  | drop
  | rewrite
  | proxy
  deriving DecidableEq, Repr

/-- Change filters (R41 to R44). -/
inductive Filter where
  | none
  | repeated
  | settle2
  | settle3
  deriving DecidableEq, Repr

/-- A default action or the management-pass setting (Table 1-1). -/
inductive PassDrop where
  | pass
  | drop
  deriving DecidableEq, Repr

/-- One steering entry (Table 1-2). `setClass` is absent for KEEP, `trip` for NONE. -/
structure Entry where
  inUse      : Bool
  onA        : Bool
  onB        : Bool
  data       : Bool
  query      : Bool
  mode       : MatchMode
  tag        : Tag
  action     : Action
  rewriteTag : Tag
  keepItem   : Bool
  setClass   : Option FClass
  filter     : Filter
  window     : BitVec 16
  freshness  : BitVec 16
  trip       : Option (Fin 4)
  deriving DecidableEq, Repr

/-- What a bank holds besides its entries: the header of READ_ENTRY and of a table transfer. -/
structure BankHeader where
  masks    : Vector Tag 4
  defaults : PerSide PassDrop
  mgmtPass : PassDrop
  deriving DecidableEq, Repr

/-- One bank (Table 1-1). -/
structure Bank where
  entries : Vector Entry 64
  header  : BankHeader
  deriving DecidableEq, Repr

/-- An open table transfer (Table 9-1). -/
structure Transfer where
  declared : Nat
  expected : Nat
  sum      : BitVec 16
  idle     : CTime
  deriving DecidableEq, Repr

/-- The shadow state (R118); the transfer state exists only in LOADING (R163). -/
inductive ShadowState where
  | clean
  | loading (t : Transfer)
  | incomplete
  deriving DecidableEq, Repr

/-- Classifier counters of one ingress side (Table 1-6). -/
structure ClassifierCounters where
  dataTaken  : Counter
  queryTaken : Counter
  mgmtTaken  : Counter
  unmatched  : Counter
  forwarded  : Counter
  malformed  : Counter
  isolated   : Counter
  default    : Counter
  table      : Counter
  repeated   : Counter
  unsettled  : Counter
  hopExpired : Counter
  management : Counter
  badAddress : Counter
  deriving DecidableEq, Repr

/-- Bank counters (Table 6-4). -/
structure BankCounters where
  commitDone    : Counter
  commitRefused : Counter
  shadowWrites  : Counter
  deriving DecidableEq, Repr

/-- The classifier and the two banks. -/
structure Banks where
  active      : Bank
  shadow      : Bank
  shadowState : ShadowState
  hits        : Vector Counter 64
  classifier  : PerSide ClassifierCounters
  counters    : BankCounters
  deriving DecidableEq, Repr

/-! ## Tag memory (spec/02) -/

/-- Whether a held value may answer queries (Table 2-1). -/
inductive Freshness where
  | none
  | fresh
  | stale
  deriving DecidableEq, Repr

/-- A held record (Table 2-1). -/
structure Record where
  origin         : Side
  tag            : Tag
  held           : Option Payload
  freshness      : Freshness
  freshUntil     : CTime
  lastForwarded  : Option CTime
  candidate      : Option Payload
  candidateCount : Nat
  lastUse        : CTime
  bound          : Bool
  deriving DecidableEq, Repr

/-- Tag memory counters (Table 2-4). -/
structure TagCounters where
  allocations  : Counter
  replacements : Counter
  memoryFull   : Counter
  expiries     : Counter
  flushed      : Counter
  deriving DecidableEq, Repr

/-- The 48 records, a free one absent. -/
structure TagMemory where
  records  : Vector (Option Record) 48
  counters : TagCounters
  deriving DecidableEq, Repr

/-! ## Query proxy (spec/03) -/

/-- An outstanding query entry (Table 3-1). -/
structure QueryEntry where
  tag       : Tag
  target    : Side
  deadline  : CTime
  coalesced : Nat
  cls       : FClass
  record    : Fin 48
  deriving DecidableEq, Repr

/-- Proxy counters of one asking side (Table 3-3). -/
structure ProxyCounters where
  answered      : Counter
  answerRefused : Counter
  coalesced     : Counter
  tracked       : Counter
  untracked     : Counter
  withdrawn     : Counter
  settled       : Counter
  timeout       : Counter
  cleared       : Counter
  deriving DecidableEq, Repr

/-- The outstanding query list, oldest entry first. -/
structure Proxy where
  list     : List QueryEntry
  counters : PerSide ProxyCounters
  deriving DecidableEq, Repr

/-! ## Frame pool and egress queues (spec/04) -/

/-- A frame's kind with the fields only that kind has (Table 12-1). -/
inductive Body where
  | data (reply : Bool) (tag : Tag)
  | query (reply : Bool) (tag : Tag)
  | mgmt (reply : Bool) (dst src : Station)
  | unknown
  deriving DecidableEq, Repr

/-- A segment frame, less its check. -/
structure Frame where
  body    : Body
  cls     : FClass
  hop     : Hop
  payload : Payload
  deriving DecidableEq, Repr

/-- Removal marks (R85). -/
inductive Mark where
  | none
  | stale
  | cancelled
  | isolated
  deriving DecidableEq, Repr

/-- A queued frame (Table 4-1). -/
structure QFrame where
  frame       : Frame
  queueTime   : CTime
  ageDeadline : Option CTime
  attempts    : Nat
  onLine      : Bool
  mark        : Mark
  deriving DecidableEq, Repr

/-- Queue manager counters of one egress side (Table 4-5). -/
structure QueueCounters where
  admitted         : Counter
  sent             : Counter
  notAccepting     : Counter
  isolatedRefused  : Counter
  poolFull         : Counter
  ceiling          : Counter
  displaced        : Counter
  stale            : Counter
  cancelled        : Counter
  undeliverable    : Counter
  isolatedRemoved  : Counter
  purgedSilent     : Counter
  purgedOff        : Counter
  purgedRestart    : Counter
  deriving DecidableEq, Repr

/-- The two egress queues in transmission order. The pool's free slots are what the two lengths leave of 48 (R70). -/
structure Queues where
  frames   : PerSide (List QFrame)
  counters : PerSide QueueCounters
  deriving DecidableEq, Repr

/-! ## Segment ports (spec/05) -/

/-- Side states (Table 5-3). -/
inductive SideState where
  | active
  | warned
  | silent
  | off
  deriving DecidableEq, Repr

/-- An attempt in progress: the bytes the transmitter sends, check included, and the end of the line wait (R100). -/
structure Attempt where
  bytes    : List Byte
  lineWait : CTime
  deriving DecidableEq, Repr

/-- Port counters of one side (Table 5-5). -/
structure PortCounters where
  receivedGood       : Counter
  badFrame           : Counter
  receivedWhileOff   : Counter
  attemptStarted     : Counter
  sent               : Counter
  lost               : Counter
  noack              : Counter
  lineError          : Counter
  aborted            : Counter
  warnedEntry        : Counter
  silentEntry        : Counter
  automaticRecovery  : Counter
  commandedRecovery  : Counter
  deriving DecidableEq, Repr

/-- One segment port (Table 5-1). `acknowledged` is the model's own field (log entry 5, DESIGN CHOICE): whether the
port answered in the acknowledgement slot of the last reception that ended at it. `awaitsStart` is what R114 makes the
receiver remember (log entry 22, DEDUCED): the frame that was in progress on the segment when STARTING ended has not
ended yet. -/
structure Port where
  state        : SideState
  score        : Nat
  attempt      : Option Attempt
  recovery     : Option CTime
  acknowledged : Bool
  awaitsStart  : Bool
  counters     : PortCounters
  deriving DecidableEq, Repr

/-! ## Trip unit (spec/07) -/

/-- A trip source definition (R132). -/
structure TripSource where
  offset : Nat
  value  : Byte
  mask   : Byte
  deriving DecidableEq, Repr

/-- The trip configuration (R132); bit k of the required set stands for source k. -/
structure TripConfig where
  sources  : Vector (Option TripSource) 4
  required : BitVec 4
  window   : BitVec 16
  deriving DecidableEq, Repr

/-- Trip states (Table 7-3). -/
inductive TripState where
  | disarmed
  | watching
  | collecting
  | tripped
  deriving DecidableEq, Repr

/-- The record of the last trip (Table 7-2). -/
structure TripRecord where
  time   : CTime
  source : Fin 4
  side   : Side
  tag    : Tag
  deriving DecidableEq, Repr

/-- Trip unit counters (Table 7-4). -/
structure TripCounters where
  assertions  : Vector Counter 4
  collections : Counter
  trips       : Counter
  lapses      : Counter
  abandoned   : Counter
  releases    : Counter
  deriving DecidableEq, Repr

/-- The trip unit (Table 7-2). -/
structure Trip where
  config   : TripConfig
  state    : TripState
  asserted : BitVec 4
  deadline : Option CTime
  last     : Option TripRecord
  isol     : Bool
  counters : TripCounters
  deriving DecidableEq, Repr

/-! ## Management agent (spec/08) -/

/-- Response statuses (Table 8-4), in the order of their codes. -/
inductive Status where
  | ok
  | refusedNotOwner
  | refusedOwned
  | busy
  | badArgument
  | badState
  | invalidTable
  | sequenceGap
  | checksumMismatch
  | unknownCommand
  deriving DecidableEq, Repr

/-- A RESPONSE message (Table 12-2). -/
structure Response where
  seq    : Byte
  code   : Byte
  status : Status
  args   : Payload
  deriving DecidableEq, Repr

/-- The session while there is an owner (Table 8-2). -/
structure Session where
  owner    : Station
  lease    : Byte
  deadline : CTime
  side     : Side
  lastSeq  : Byte
  cached   : Response
  deriving DecidableEq, Repr

/-- The parameter set (Table 8-5); ON is true. -/
structure Params where
  ownStation    : Station
  start         : PerSide Bool
  retryLimit    : Nat
  autoRecover   : BitVec 16
  ceiling       : PerSide Nat
  ageLimits     : Vector (BitVec 16) 4
  originHop     : Hop
  mgmtClass     : FClass
  queryTimeout  : BitVec 16
  reportStation : Station
  reportSide    : Side
  levels        : PerGroup Nat
  deriving DecidableEq, Repr

/-- Agent counters (Table 8-8). -/
structure AgentCounters where
  commands        : Counter
  duplicates      : Counter
  unknownCommand  : Counter
  refusedNotOwner : Counter
  openRefused     : Counter
  badMessage      : Counter
  ignoredMessage  : Counter
  responseLost    : Counter
  sessionsOpened  : Counter
  closes          : Counter
  leaseExpiries   : Counter
  deriving DecidableEq, Repr

/-- The management agent. -/
structure Agent where
  session  : Option Session
  params   : Params
  counters : AgentCounters
  deriving DecidableEq, Repr

/-! ## Event unit (spec/10) -/

/-- The 29 event flags (Table 10-1). -/
inductive Flag where
  | warned (side : Side)
  | silent (side : Side)
  | recovered (side : Side)
  | badFrame (side : Side)
  | undeliverable (side : Side)
  | commitDone
  | commitRefused
  | loadAborted
  | storeDone
  | storeFailed
  | imageFallback
  | imageAbsent
  | poolFull
  | displaced
  | staleDrop
  | tagMemoryFull
  | queryTimeout
  | queryUntracked
  | hopExpired
  | tripped
  | tripLapsed
  | tripReleased
  | leaseExpired
  | reportDiscarded
  deriving DecidableEq, Repr

/-- A report (Table 10-2); `snapshot` has the group's flags by Table 12-7. `making` is the model's own field (log
entry 7, DEDUCED): the event that made the report has not settled, so its snapshot is not yet fixed. -/
structure Report where
  seq         : Byte
  group       : Group
  level       : Nat
  snapshot    : BitVec 16
  time        : CTime
  outstanding : Bool
  sends       : Nat
  retry       : Option CTime
  making      : Bool
  deriving DecidableEq, Repr

/-- Event unit counters (Table 10-3). -/
structure EventCounters where
  created      : Counter
  sends        : Counter
  sendRefused  : Counter
  acknowledged : Counter
  ignoredAck   : Counter
  givenUp      : Counter
  discarded    : Counter
  deriving DecidableEq, Repr

/-- The event unit: flags and enables by the bits of Table 12-7, the report list in its order and the report sequence
counter. -/
structure Events where
  flags    : PerGroup (BitVec 16)
  enables  : PerGroup (BitVec 16)
  reports  : List Report
  nextSeq  : Byte
  counters : EventCounters
  deriving DecidableEq, Repr

/-! ## Retained image store (spec/11) -/

/-- The contents of an image, less what only the slot keeps (R186). -/
structure Image where
  bank    : Bank
  params  : Params
  enables : PerGroup (BitVec 16)
  trip    : TripConfig
  seq     : BitVec 32
  deriving DecidableEq, Repr

/-- What the cells of a written slot hold: whether the format code is the KX-412's, whether the check value agrees
with the contents, whether the valid marker is present, and the contents. -/
structure SlotCells where
  formatOk : Bool
  checkOk  : Bool
  marker   : Bool
  image    : Image
  deriving DecidableEq, Repr

/-- Slot states (R186). -/
inductive SlotState where
  | blank
  | valid
  | damaged
  deriving DecidableEq, Repr

/-- An image slot: its state, and its cells, absent while they are all erased. -/
structure Slot where
  state : SlotState
  cells : Option SlotCells
  deriving DecidableEq, Repr

/-- The two slots. -/
inductive SlotId where
  | zero
  | one
  deriving DecidableEq, Repr

/-- A write in progress: the target, the snapshot buffer with the sequence it will carry, and the time of the STORE. -/
structure Storing where
  target   : SlotId
  snapshot : Image
  since    : CTime
  deriving DecidableEq, Repr

/-- The image store and what start-up read: the store state is STORING while `store` is present, IDLE otherwise;
`loaded` is absent after a start-up in factory state; `flagDue` is the image flag that the end of STARTING sets. -/
structure ImageStore where
  slot0        : Slot
  slot1        : Slot
  store        : Option Storing
  strap        : BitVec 4
  failmodeHigh : Bool
  loaded       : Option SlotId
  flagDue      : Option Flag
  deriving DecidableEq, Repr

/-! ## The whole part -/

/-- Without power, held by RST_N low, in the STARTING state, or running (R190, R192). -/
inductive Phase where
  | unpowered
  | held
  | starting
  | running
  deriving DecidableEq, Repr

/-- The state of the part. `free` counts the bytes sent so far that spec/ gives no value (log entry 2, DESIGN CHOICE)
and `pending` holds the commands that wait, the first to be taken first; both are the model's own. -/
structure State where
  phase   : Phase
  now     : CTime
  banks   : Banks
  tags    : TagMemory
  proxy   : Proxy
  queues  : Queues
  ports   : PerSide Port
  trip    : Trip
  agent   : Agent
  events  : Events
  image   : ImageStore
  free    : Nat
  pending : List Instr
  deriving DecidableEq, Repr

/-! ## Start-up values -/

/-- The all-zero entry encoding (note to Table 12-5). -/
def Entry.cleared : Entry where
  inUse := false
  onA := false
  onB := false
  data := false
  query := false
  mode := .exact
  tag := 0
  action := .pass
  rewriteTag := 0
  keepItem := false
  setClass := none
  filter := .none
  window := 0
  freshness := 0
  trip := none

/-- The header of a cleared bank (R164). -/
def BankHeader.cleared : BankHeader where
  masks := Vector.replicate 4 0
  defaults := ⟨.pass, .pass⟩
  mgmtPass := .pass

/-- The bank that LOAD_BEGIN leaves (R164). -/
def Bank.cleared : Bank where
  entries := Vector.replicate 64 Entry.cleared
  header := BankHeader.cleared

/-- The factory bank (R191). -/
def Bank.factory (failmodeHigh : Bool) : Bank where
  entries := Vector.replicate 64 Entry.cleared
  header :=
    { BankHeader.cleared with defaults := if failmodeHigh then ⟨.drop, .drop⟩ else ⟨.pass, .pass⟩ }

/-- The default own station of a strap value (R155). -/
def Params.strapStation (strap : BitVec 4) : Station :=
  if strap = 15 then 4079 else 4080 + strap.setWidth 12

/-- The parameters' defaults (Table 8-5). -/
def Params.factory (strap : BitVec 4) : Params where
  ownStation := Params.strapStation strap
  start := ⟨true, true⟩
  retryLimit := 3
  autoRecover := 1000
  ceiling := ⟨32, 32⟩
  ageLimits := #v[200, 100, 50, 0]
  originHop := 3
  mgmtClass := 2
  queryTimeout := 40
  reportStation := stationNone
  reportSide := .a
  levels := ⟨3, 4, 2, 7⟩

/-- The bits that stand for flags in each group (Table 12-7): 10 of PORT, 7 of TABLE, 7 of TRAFFIC, 5 of GUARD. -/
def Events.allFlags : PerGroup (BitVec 16) := ⟨0x03FF, 0x007F, 0x007F, 0x001F⟩

/-- The trip configuration after a factory start-up (Table 7-1). -/
def TripConfig.factory : TripConfig where
  sources := Vector.replicate 4 none
  required := 0
  window := 100

/-- What a factory start-up loads (R191), in the shape of an image; its sequence is read by nothing. -/
def Image.factory (strap : BitVec 4) (failmodeHigh : Bool) : Image where
  bank := Bank.factory failmodeHigh
  params := Params.factory strap
  enables := Events.allFlags
  trip := TripConfig.factory
  seq := 0

/-- All classifier counters 0. -/
def ClassifierCounters.zero : ClassifierCounters := ⟨0, 0, 0, 0, 0, 0, 0, 0, 0, 0, 0, 0, 0, 0⟩
/-- All bank counters 0. -/
def BankCounters.zero : BankCounters := ⟨0, 0, 0⟩
/-- All tag memory counters 0. -/
def TagCounters.zero : TagCounters := ⟨0, 0, 0, 0, 0⟩
/-- All proxy counters 0. -/
def ProxyCounters.zero : ProxyCounters := ⟨0, 0, 0, 0, 0, 0, 0, 0, 0⟩
/-- All queue manager counters 0. -/
def QueueCounters.zero : QueueCounters := ⟨0, 0, 0, 0, 0, 0, 0, 0, 0, 0, 0, 0, 0, 0⟩
/-- All port counters 0. -/
def PortCounters.zero : PortCounters := ⟨0, 0, 0, 0, 0, 0, 0, 0, 0, 0, 0, 0, 0⟩
/-- All trip unit counters 0. -/
def TripCounters.zero : TripCounters := ⟨Vector.replicate 4 0, 0, 0, 0, 0, 0⟩
/-- All agent counters 0. -/
def AgentCounters.zero : AgentCounters := ⟨0, 0, 0, 0, 0, 0, 0, 0, 0, 0, 0⟩
/-- All event unit counters 0. -/
def EventCounters.zero : EventCounters := ⟨0, 0, 0, 0, 0, 0, 0⟩

/-- A port at the end of STARTING (R114), its start parameter given. -/
def Port.started (on : Bool) : Port where
  state := if on then .active else .off
  score := 0
  attempt := none
  recovery := none
  acknowledged := false
  awaitsStart := false
  counters := PortCounters.zero

/-- The trip state that a required set gives outside COLLECTING and TRIPPED (R134, R139, R141). -/
def TripConfig.restState (c : TripConfig) : TripState := if c.required = 0 then .disarmed else .watching

/-- The trip unit after start-up (R134). -/
def Trip.started (c : TripConfig) : Trip where
  config := c
  state := c.restState
  asserted := 0
  deadline := none
  last := none
  isol := false
  counters := TripCounters.zero

/-- The part as STARTING leaves it once `img` is loaded (R190 to R192), before the event at the end of STARTING: the
slots, the straps and the waiting commands are the arguments. -/
def State.started (img : Image) (store : ImageStore) (free : Nat) (pending : List Instr) : State where
  phase := .starting
  now := 0
  banks :=
    { active := img.bank
      shadow := img.bank
      shadowState := .clean
      hits := Vector.replicate 64 0
      classifier := ⟨ClassifierCounters.zero, ClassifierCounters.zero⟩
      counters := BankCounters.zero }
  tags := ⟨Vector.replicate 48 none, TagCounters.zero⟩
  proxy := ⟨[], ⟨ProxyCounters.zero, ProxyCounters.zero⟩⟩
  queues := ⟨⟨[], []⟩, ⟨QueueCounters.zero, QueueCounters.zero⟩⟩
  ports := ⟨Port.started img.params.start.a, Port.started img.params.start.b⟩
  trip := Trip.started img.trip
  agent := ⟨none, img.params, AgentCounters.zero⟩
  events := ⟨⟨0, 0, 0, 0⟩, img.enables, [], 0, EventCounters.zero⟩
  image := store
  free := free
  pending := pending

/-- The image store of a part that has never stored, with straps ID0 to ID3 and FAILMODE low (log entry 1, DESIGN
CHOICE). -/
def ImageStore.blank : ImageStore where
  slot0 := ⟨.blank, none⟩
  slot1 := ⟨.blank, none⟩
  store := none
  strap := 0
  failmodeHigh := false
  loaded := none
  flagDue := none

/-- The machine right after reset: the end of a factory start-up of a part whose slots are BLANK and whose straps are
all low (log entry 1, DESIGN CHOICE). IMAGE_ABSENT is set (R190, R192); it makes no report, since REPORT_STATION is
4095 (R175). -/
def State.reset : State :=
  { State.started (Image.factory 0 false) ImageStore.blank 0 [] with
    phase := .running
    events := ⟨⟨0, 0x0040, 0, 0⟩, Events.allFlags, [], 0, EventCounters.zero⟩ }

end Sys2Proof.Machine
end

