-- ==== Sys2Proof/Machine/Access.lean ====
section
/-! DEFINITION. Reading and changing one part of the state: the two sides, the four event groups, the saturating
counts and the deadlines. Every block reaches its state through these. -/

namespace Sys2Proof

/-- The far side of a side (spec/00_scope.md 5.3). -/
def Side.far : Side → Side
  | .a => .b
  | .b => .a

/-- Side codes of a command argument (note to Table 12-3): 0 A, 1 B, 2 both. -/
def Side.code : Side → Byte
  | .a => 0
  | .b => 1

/-- The side a code names, when it names one. -/
def Side.ofCode (b : Byte) : Option Side := if b = 0 then some .a else if b = 1 then some .b else none

end Sys2Proof

namespace Sys2Proof.Machine

/-- The value of a side. -/
def PerSide.get {α : Type} (p : PerSide α) : Side → α
  | .a => p.a
  | .b => p.b

/-- The value of a side replaced. -/
def PerSide.set {α : Type} (p : PerSide α) (side : Side) (x : α) : PerSide α :=
  match side with
  | .a => { p with a := x }
  | .b => { p with b := x }

/-- The value of a side changed. -/
def PerSide.modify {α : Type} (p : PerSide α) (side : Side) (f : α → α) : PerSide α := p.set side (f (p.get side))

/-- The value of a group. -/
def PerGroup.get {α : Type} (p : PerGroup α) : Group → α
  | .port => p.port
  | .table => p.table
  | .traffic => p.traffic
  | .guard => p.guard

/-- The value of a group replaced. -/
def PerGroup.set {α : Type} (p : PerGroup α) (g : Group) (x : α) : PerGroup α :=
  match g with
  | .port => { p with port := x }
  | .table => { p with table := x }
  | .traffic => { p with traffic := x }
  | .guard => { p with guard := x }

/-- A 32-bit count increased by `n`; it stays at 4,294,967,295 once it reaches that value (R31, R50). -/
def satAdd (c : Counter) (n : Nat) : Counter := BitVec.ofNat 32 (min (c.toNat + n) 4294967295)

/-- A 32-bit count incremented. -/
def bump (c : Counter) : Counter := satAdd c 1

/-- Coupler time `now` has reached the deadline `d`, modulo the wrap (spec/00_scope.md 5.4): `d` lies at most half
the counter's range in the past (log entry 6, DESIGN CHOICE). -/
def reached (now d : CTime) : Bool := (now - d).toNat < 2147483648

/-- A pending deadline has been reached. -/
def due (now : CTime) : Option CTime → Bool
  | some d => reached now d
  | none => false

/-- Bit k of a set of trip sources. -/
def sourceBit (k : Fin 4) : BitVec 4 := 1#4 <<< k.val

/-- The coupler runs: it is not held, unpowered or STARTING (R190). -/
def State.running (s : State) : Bool := s.phase = .running

/-- A port changed. -/
def State.onPort (side : Side) (f : Port → Port) (s : State) : State := { s with ports := s.ports.modify side f }

/-- A port's counters changed. -/
def State.countPort (side : Side) (f : PortCounters → PortCounters) (s : State) : State :=
  s.onPort side fun p => { p with counters := f p.counters }

/-- An egress queue changed. -/
def State.onQueue (side : Side) (f : List QFrame → List QFrame) (s : State) : State :=
  { s with queues := { s.queues with frames := s.queues.frames.modify side f } }

/-- A side's queue manager counters changed. -/
def State.countQueue (side : Side) (f : QueueCounters → QueueCounters) (s : State) : State :=
  { s with queues := { s.queues with counters := s.queues.counters.modify side f } }

/-- A side's classifier counters changed. -/
def State.countClassifier (side : Side) (f : ClassifierCounters → ClassifierCounters) (s : State) : State :=
  { s with banks := { s.banks with classifier := s.banks.classifier.modify side f } }

/-- The bank counters changed. -/
def State.countBank (f : BankCounters → BankCounters) (s : State) : State :=
  { s with banks := { s.banks with counters := f s.banks.counters } }

/-- A side's proxy counters changed. -/
def State.countProxy (side : Side) (f : ProxyCounters → ProxyCounters) (s : State) : State :=
  { s with proxy := { s.proxy with counters := s.proxy.counters.modify side f } }

/-- The tag memory counters changed. -/
def State.countTag (f : TagCounters → TagCounters) (s : State) : State :=
  { s with tags := { s.tags with counters := f s.tags.counters } }

/-- The trip unit's counters changed. -/
def State.countTrip (f : TripCounters → TripCounters) (s : State) : State :=
  { s with trip := { s.trip with counters := f s.trip.counters } }

/-- The agent's counters changed. -/
def State.countAgent (f : AgentCounters → AgentCounters) (s : State) : State :=
  { s with agent := { s.agent with counters := f s.agent.counters } }

/-- The event unit's counters changed. -/
def State.countEvents (f : EventCounters → EventCounters) (s : State) : State :=
  { s with events := { s.events with counters := f s.events.counters } }

/-- The session replaced. -/
def State.withSession (x : Option Session) (s : State) : State := { s with agent := { s.agent with session := x } }

/-- The parameters replaced. -/
def State.withParams (p : Params) (s : State) : State := { s with agent := { s.agent with params := p } }

/-- The shadow state replaced. -/
def State.withShadowState (x : ShadowState) (s : State) : State := { s with banks := { s.banks with shadowState := x } }

/-- The report list replaced. -/
def State.withReports (rs : List Report) (s : State) : State := { s with events := { s.events with reports := rs } }

/-- `n` bytes that spec/ gives no value (log entry 2, DESIGN CHOICE): each is the next value of `Config.freeByte`. -/
def State.takeFree (n : Nat) (s : State) : State × Payload :=
  ({ s with free := s.free + n }, (List.range n).map fun i => Config.freeByte (s.free + i))

/-- The age limit of a class (Table 8-5). -/
def Params.ageLimit (p : Params) (c : FClass) : BitVec 16 := p.ageLimits[c.toNat]

/-- Free slots of the pool (R70). -/
def Queues.free (q : Queues) : Nat := Config.poolSlots - (q.frames.a.length + q.frames.b.length)

/-- The frame has the kind DATA or QUERY: what a trip purges and an isolated coupler refuses (R75, R91). -/
def Frame.traffic (f : Frame) : Bool :=
  match f.body with
  | .data _ _ | .query _ _ => true
  | .mgmt _ _ _ | .unknown => false

/-- The frame is DATA or QUERY of the given tag (R86). -/
def Frame.carries (t : Tag) (f : Frame) : Bool :=
  match f.body with
  | .data _ u | .query _ u => u == t
  | .mgmt _ _ _ | .unknown => false

/-- The frame of a queue that is on the line. -/
def onLineFrame (q : List QFrame) : Option QFrame := q.find? (·.onLine)

/-- A side takes frames: ACTIVE or WARNED (R75, R78). -/
def SideState.accepts : SideState → Bool
  | .active | .warned => true
  | .silent | .off => false

end Sys2Proof.Machine
end

