-- ==== Sys2Proof/Machine/Bytes.lean ====
section
/-! DEFINITION. Byte order, the frame check and the segment frame on the line (spec/12_encodings.md, 12.1 and 12.2). -/

namespace Sys2Proof.Machine

/-- Two bytes, high byte first. -/
def be16 (w : BitVec 16) : Payload := [w.extractLsb' 8 8, w.extractLsb' 0 8]

/-- Four bytes, high byte first. -/
def be32 (w : BitVec 32) : Payload := [w.extractLsb' 24 8, w.extractLsb' 16 8, w.extractLsb' 8 8, w.extractLsb' 0 8]

/-- A tag in three bytes, bits 23 to 20 zero. -/
def tagBytes (t : Tag) : Payload := [0#4 ++ t.extractLsb' 16 4, t.extractLsb' 8 8, t.extractLsb' 0 8]

/-- A station in two bytes, the number in bits 11 to 0 (12.5). Bits 15 to 12 stand for nothing and are 0: log entry 23,
DESIGN CHOICE. -/
def stationBytes (n : Station) : Payload := [0#4 ++ n.extractLsb' 8 4, n.extractLsb' 0 8]

/-- A one-byte count. -/
def countByte (n : Nat) : Byte := BitVec.ofNat 8 n

/-- A one-byte yes or no. -/
def boolByte (b : Bool) : Byte := if b then 1 else 0

/-- A deadline, FFFFFFFFh when absent (Table 12-9). -/
def deadlineBytes (d : Option CTime) : Payload := be32 (d.getD 0xFFFFFFFF#32)

/-- The tag in bits 19 to 0 of three bytes, bits 23 to 20 ignored (R193). -/
def readTag (h m l : Byte) : Tag := h.extractLsb' 0 4 ++ m ++ l

/-- The tag of three argument bytes; a bit set above bit 19 names no tag (R194). -/
def argTag (h m l : Byte) : Option Tag := if h.extractLsb' 4 4 = 0 then some (readTag h m l) else none

/-- One bit of the frame check (R193): generator polynomial 1021h. -/
def checkBit (reg : BitVec 16) (bit : Bool) : BitVec 16 :=
  if reg.msb != bit then (reg <<< 1) ^^^ 0x1021#16 else reg <<< 1

/-- One byte of the frame check, most significant bit first. -/
def checkByte (reg : BitVec 16) (b : Byte) : BitVec 16 :=
  [7, 6, 5, 4, 3, 2, 1, 0].foldl (fun r i => checkBit r (b.getLsbD i)) reg

/-- The frame check over some bytes, the register preset to FFFFh (R193). -/
def frameCheck (bytes : List Byte) : BitVec 16 := bytes.foldl checkByte 0xFFFF#16

/-- Kind bits and Reply bit of byte 0 (Table 12-1). -/
def Body.kindBits : Body → BitVec 2
  | .data _ _ => 0
  | .query _ _ => 1
  | .mgmt _ _ _ => 2
  | .unknown => 3

/-- The Reply bit of byte 0. -/
def Body.replyBit : Body → Bool
  | .data r _ | .query r _ | .mgmt r _ _ => r
  | .unknown => false

/-- Bytes 1 to 3: the tag, or the destination in bits 23 to 12 and the source in bits 11 to 0. -/
def Body.addressBytes : Body → Payload
  | .data _ t | .query _ t => tagBytes t
  | .mgmt _ dst src => [dst.extractLsb' 4 8, dst.extractLsb' 0 4 ++ src.extractLsb' 8 4, src.extractLsb' 0 8]
  | .unknown => [0, 0, 0]

/-- The frame's bytes less its check. -/
def Frame.checked (f : Frame) : List Byte :=
  (f.body.kindBits ++ BitVec.ofBool f.body.replyBit ++ f.cls ++ f.hop) ::
    (f.body.addressBytes ++ countByte f.payload.length :: f.payload)

/-- The frame as a transmitter sends it, its check computed afresh (R100, R193). -/
def Frame.bytes (f : Frame) : List Byte := f.checked ++ be16 (frameCheck f.checked)

/-- The kind and addresses of received bytes 0 to 3. -/
def readBody (b0 b1 b2 b3 : Byte) : Body :=
  let reply := b0.getLsbD 5
  let kind := b0.extractLsb' 6 2
  if kind = 0 then .data reply (readTag b1 b2 b3)
  else if kind = 1 then .query reply (readTag b1 b2 b3)
  else if kind = 2 then .mgmt reply (b1 ++ b2.extractLsb' 4 4) (b2.extractLsb' 0 4 ++ b3)
  else .unknown

/-- A port's verification of a received frame (R96, R193): the frame when its check agrees, its length byte is 0 to 24
and the byte count is 7 plus that length; nothing when it is a bad frame. -/
def readFrame (bytes : List Byte) : Option Frame :=
  match bytes with
  | b0 :: b1 :: b2 :: b3 :: n :: rest =>
    if n.toNat ≤ Config.payload ∧ rest.length = n.toNat + 2 ∧
        rest.drop n.toNat = be16 (frameCheck (b0 :: b1 :: b2 :: b3 :: n :: rest.take n.toNat)) then
      some
        { body := readBody b0 b1 b2 b3
          cls := b0.extractLsb' 3 2
          hop := b0.extractLsb' 0 3
          payload := rest.take n.toNat }
    else none
  | _ => none

/-- Status codes (Table 12-4). -/
def Status.code : Status → Byte
  | .ok => 0
  | .refusedNotOwner => 1
  | .refusedOwned => 2
  | .busy => 3
  | .badArgument => 4
  | .badState => 5
  | .invalidTable => 6
  | .sequenceGap => 7
  | .checksumMismatch => 8
  | .unknownCommand => 9

/-- The payload of a COMMAND message (Table 12-2). -/
def commandPayload (seq code : Byte) (args : Payload) : Payload := 0x00 :: seq :: code :: 0x00 :: args

/-- The payload of an ACK message (Table 12-2). -/
def ackPayload (seq : Byte) : Payload := [0x03, seq, 0x00, 0x00]

/-- The payload of a RESPONSE message. -/
def Response.payload (r : Response) : Payload := 0x01 :: r.seq :: r.code :: r.status.code :: r.args

/-- The MGMT frame an arrival stands for, once its destination and payload are given. -/
def arrivalFrame (m : Arrival) (dst : Station) (payload : Payload) : Frame where
  body := .mgmt m.reply dst m.source
  cls := m.cls
  hop := m.hop
  payload := payload

end Sys2Proof.Machine
end

