-- ==== Sys2Proof/Machine/Flags.lean ====
section
/-! DEFINITION. Event flags, groups and the making of reports (spec/10_events_and_reports.md, 10.1 and 10.3). A flag is
set through `State.setFlag`; the reports it makes are entered in the list at once and sent by `State.settle`
(Machine/Ops.lean). -/

namespace Sys2Proof.Machine

/-- The group a flag belongs to (Table 10-1). -/
def Flag.group : Flag → Group
  | .warned _ | .silent _ | .recovered _ | .badFrame _ | .undeliverable _ => .port
  | .commitDone | .commitRefused | .loadAborted | .storeDone | .storeFailed | .imageFallback | .imageAbsent => .table
  | .poolFull | .displaced | .staleDrop | .tagMemoryFull | .queryTimeout | .queryUntracked | .hopExpired => .traffic
  | .tripped | .tripLapsed | .tripReleased | .leaseExpired | .reportDiscarded => .guard

/-- The bit a flag has in its group (Table 12-7). -/
def Flag.position : Flag → Nat
  | .warned .a => 0
  | .silent .a => 1
  | .recovered .a => 2
  | .badFrame .a => 3
  | .undeliverable .a => 4
  | .warned .b => 5
  | .silent .b => 6
  | .recovered .b => 7
  | .badFrame .b => 8
  | .undeliverable .b => 9
  | .commitDone => 0
  | .commitRefused => 1
  | .loadAborted => 2
  | .storeDone => 3
  | .storeFailed => 4
  | .imageFallback => 5
  | .imageAbsent => 6
  | .poolFull => 0
  | .displaced => 1
  | .staleDrop => 2
  | .tagMemoryFull => 3
  | .queryTimeout => 4
  | .queryUntracked => 5
  | .hopExpired => 6
  | .tripped => 0
  | .tripLapsed => 1
  | .tripReleased => 2
  | .leaseExpired => 3
  | .reportDiscarded => 4

/-- The flag's bit as a mask. -/
def Flag.bit (f : Flag) : BitVec 16 := 1#16 <<< f.position

/-- Group codes (Table 12-7). -/
def Group.code : Group → Byte
  | .port => 0
  | .table => 1
  | .traffic => 2
  | .guard => 3

/-- The group a code names. -/
def Group.ofCode (b : Byte) : Option Group :=
  if b = 0 then some .port else if b = 1 then some .table else if b = 2 then some .traffic
  else if b = 3 then some .guard else none

/-- The flag is set. -/
def Events.has (ev : Events) (f : Flag) : Bool := (ev.flags.get f.group) &&& f.bit != 0

/-- The group is raised: some flag of it is both set and enabled (R174). -/
def Events.raised (ev : Events) (g : Group) : Bool := (ev.flags.get g) &&& (ev.enables.get g) != 0

/-- The flag's bit set and nothing else (R174). -/
def Events.mark (ev : Events) (f : Flag) : Events :=
  { ev with flags := ev.flags.set f.group (ev.flags.get f.group ||| f.bit) }

/-- A report's place in the list: after every report of equal or higher level, before every one of lower level
(R178). -/
def insertReport (r : Report) : List Report → List Report
  | [] => [r]
  | x :: xs => if r.level ≤ x.level then x :: insertReport r xs else r :: x :: xs

/-- The lowest level among the reports that are not outstanding. -/
def lowestLevel (rs : List Report) : Option Nat :=
  ((rs.filter fun r => !r.outstanding).map (·.level)).min?

/-- The list less the most recently created report of a level, other than the outstanding one; within a level the
list is in order of creation, so that report is the last of its level. -/
def dropNewest (level : Nat) (rs : List Report) : List Report :=
  (rs.reverse.eraseP fun r => r.level == level && !r.outstanding).reverse

/-- A report of a group made and placed, or dealt with by the full list (R178, R179). The answer also says whether a
report was discarded. Its snapshot is fixed by `State.settle`. -/
def Events.place (g : Group) (level : Nat) (now : CTime) (ev : Events) : Events × Bool :=
  let r : Report :=
    { seq := ev.nextSeq
      group := g
      level := level
      snapshot := ev.flags.get g
      time := now
      outstanding := ev.reports.isEmpty
      sends := 0
      retry := none
      making := true }
  let ev1 := { ev with nextSeq := ev.nextSeq + 1, counters := { ev.counters with created := bump ev.counters.created } }
  if ev.reports.length < Config.reports then
    ({ ev1 with reports := insertReport r ev.reports }, false)
  else
    let ev2 := { ev1 with counters := { ev1.counters with discarded := bump ev1.counters.discarded } }
    match lowestLevel ev.reports with
    | some low =>
      if low < level then ({ ev2 with reports := insertReport r (dropNewest low ev.reports) }, true) else (ev2, true)
    | none => (ev2, true)

/-- A transition of a group to raised makes a report when REPORT_STATION names a station (R175). -/
def Events.report (p : Params) (now : CTime) (g : Group) (ev : Events) : Events × Bool :=
  if p.reportStation = stationNone then (ev, false) else ev.place g (p.levels.get g) now

/-- A flag set; a transition of its group makes a report. The answer says whether a report was discarded. -/
def Events.raise (p : Params) (now : CTime) (f : Flag) (ev : Events) : Events × Bool :=
  let ev1 := ev.mark f
  if !ev.raised f.group && ev1.raised f.group then ev1.report p now f.group else (ev1, false)

/-- REPORT_DISCARDED set after a discard, which may make one GUARD report that meets the full list in its turn
(R179). -/
def Events.afterDiscard (p : Params) (now : CTime) (ev : Events) : Events :=
  (ev.raise p now .reportDiscarded).1

/-- A flag set by its cause (R174, R175, R179). -/
def Events.setFlag (p : Params) (now : CTime) (f : Flag) (ev : Events) : Events :=
  match ev.raise p now f with
  | (ev1, false) => ev1
  | (ev1, true) => ev1.afterDiscard p now

/-- A flag set in the event in which its cause occurs. -/
def State.setFlag (f : Flag) (s : State) : State :=
  { s with events := s.events.setFlag s.agent.params s.now f }

/-- The enables of a group replaced as a whole, which may be a transition to raised (R177). -/
def Events.setEnables (p : Params) (now : CTime) (g : Group) (enables : BitVec 16) (ev : Events) : Events :=
  let ev1 := { ev with enables := ev.enables.set g enables }
  if !ev.raised g && ev1.raised g then
    match ev1.report p now g with
    | (ev2, false) => ev2
    | (ev2, true) => ev2.afterDiscard p now
  else ev1

/-- The first report of the list made outstanding, its send due at once (R180). -/
def promote : List Report → List Report
  | [] => []
  | r :: rs => { r with outstanding := true, sends := 0, retry := none } :: rs

/-- The outstanding report. -/
def outstandingReport (rs : List Report) : Option Report := rs.find? (·.outstanding)

/-- The list less its outstanding report, the first of the rest made outstanding (R181, R182). -/
def retireOutstanding (rs : List Report) : List Report := promote (rs.eraseP (·.outstanding))

/-- The reports that the event has made take the group's flags as they now stand: a snapshot holds the flags after
the event that raised the group (Table 10-2). `State.settle` says when inside the event this is done (log entry 7). -/
def Events.fixSnapshots (ev : Events) : Events :=
  { ev with
    reports := ev.reports.map fun r =>
      if r.making then { r with snapshot := ev.flags.get r.group, making := false } else r }

end Sys2Proof.Machine
end

