-- ==== Sys2Proof/Machine/Ops.lean ====
section
/-! DEFINITION. The operations every block shares: admission and the egress queues (spec/04), the sending of reports
(spec/10, 10.4), the settling of an event and the passing of coupler time. -/

namespace Sys2Proof.Machine

/-! ## Queue order and admission (R71 to R77, R82) -/

/-- Why admission refuses a frame (R75, R77). -/
inductive AdmissionRefusal where
  | notAccepting
  | isolated
  | poolFull
  | ceiling
  deriving DecidableEq, Repr

/-- The result of an admission (R77). -/
inductive Admission where
  | queued
  | refused (why : AdmissionRefusal)
  deriving DecidableEq, Repr

/-- The age deadline of a frame of class `c` queued at `since`; absent while the class has no limit (R82). -/
def Params.ageDeadline (p : Params) (since : CTime) (c : FClass) : Option CTime :=
  if p.ageLimit c = 0 then none else some (since + (p.ageLimit c).setWidth 32)

/-- A frame with the fields admission gives it (Table 4-1). -/
def Frame.queuedAt (p : Params) (now : CTime) (f : Frame) : QFrame where
  frame := f
  queueTime := now
  ageDeadline := p.ageDeadline now f.cls
  attempts := 0
  onLine := false
  mark := .none

/-- A newly admitted frame's place: after every queued frame of its class or higher, before every one of lower class
(R72). -/
def insertFrame (x : QFrame) : List QFrame → List QFrame
  | [] => [x]
  | y :: ys => if x.frame.cls ≤ y.frame.cls then y :: insertFrame x ys else x :: y :: ys

/-- The place of the most recently queued frame of a class that is not on the line. -/
def newestOffLine (k : FClass) : List QFrame → Option Nat
  | [] => none
  | x :: xs =>
    match newestOffLine k xs with
    | some i => some (i + 1)
    | none => if x.frame.cls = k && !x.onLine then some 0 else none

/-- The frame a frame of class `c` displaces: classes from 0 upward, stopping before `c` (R76). -/
def displaceable (c : FClass) (q : List QFrame) : Option Nat :=
  (List.range c.toNat).findSome? fun k => newestOffLine (BitVec.ofNat 2 k) q

/-- A frame placed in a side's queue and counted (R75). -/
def State.enqueue (side : Side) (f : Frame) (s : State) : State :=
  (s.onQueue side (insertFrame (f.queuedAt s.agent.params s.now))).countQueue side fun c =>
    { c with admitted := bump c.admitted }

/-- Room for one more frame toward a side: its queue below the ceiling and a slot free (R75 test 3). -/
def State.roomToward (side : Side) (s : State) : Bool :=
  decide ((s.queues.frames.get side).length < s.agent.params.ceiling.get side) && decide (0 < s.queues.free)

/-- Admission of a frame to a side's egress queue (R75 to R77). -/
def State.admitFrame (side : Side) (f : Frame) (s : State) : State × Admission :=
  if !(s.ports.get side).state.accepts then
    (s.countQueue side fun c => { c with notAccepting := bump c.notAccepting }, .refused .notAccepting)
  else if s.trip.state = .tripped ∧ f.traffic then
    (s.countQueue side fun c => { c with isolatedRefused := bump c.isolatedRefused }, .refused .isolated)
  else if s.roomToward side then
    (s.enqueue side f, .queued)
  else
    match displaceable f.cls (s.queues.frames.get side) with
    | some i =>
      let s1 := (s.onQueue side (·.eraseIdx i)).countQueue side fun c => { c with displaced := bump c.displaced }
      ((s1.enqueue side f).setFlag .displaced, .queued)
    | none =>
      if s.queues.free = 0 then
        ((s.countQueue side fun c => { c with poolFull := bump c.poolFull }).setFlag .poolFull, .refused .poolFull)
      else
        (s.countQueue side fun c => { c with ceiling := bump c.ceiling }, .refused .ceiling)

/-! ## Removals and purges (R83 to R92) -/

/-- A queue manager count for a removal under a mark; *stale* also sets STALE_DROP (R85). -/
def State.removedUnder (side : Side) (m : Mark) (s : State) : State :=
  match m with
  | .none => s
  | .stale => (s.countQueue side fun c => { c with stale := bump c.stale }).setFlag .staleDrop
  | .cancelled => s.countQueue side fun c => { c with cancelled := bump c.cancelled }
  | .isolated => s.countQueue side fun c => { c with isolatedRemoved := bump c.isolatedRemoved }

/-- A frame on the line takes a removal mark if it has none (R85). -/
def QFrame.marked (m : Mark) (x : QFrame) : QFrame := if x.mark = .none then { x with mark := m } else x

/-- The frame at a place expires (R83): removed as *stale*, or marked while it is on the line. -/
def State.expire (side : Side) (place : Nat) (s : State) : State :=
  match (s.queues.frames.get side)[place]? with
  | some x =>
    if x.onLine then s.onQueue side (·.modify place (QFrame.marked .stale))
    else (s.onQueue side (·.eraseIdx place)).removedUnder side .stale
  | none => s

/-- An attempt in progress is aborted: it ends with no outcome (R100). -/
def State.abortAttempt (side : Side) (s : State) : State :=
  match (s.ports.get side).attempt with
  | some _ =>
    (s.onPort side fun p => { p with attempt := none }).countPort side fun c => { c with aborted := bump c.aborted }
  | none => s

/-- Every frame of a side's queue removed, counted by `f` with their number (R88, R89, R92). -/
def State.purge (side : Side) (f : Nat → QueueCounters → QueueCounters) (s : State) : State :=
  (s.onQueue side fun _ => []).countQueue side (f (s.queues.frames.get side).length)

/-- The trip purge of one queue (R91): DATA and QUERY frames are removed as *isolated*, the one on the line is
marked. -/
def State.tripPurge (side : Side) (s : State) : State :=
  let q := s.queues.frames.get side
  let gone := q.filter fun x => x.frame.traffic && !x.onLine
  let kept := (q.filter fun x => !(x.frame.traffic && !x.onLine)).map fun x =>
    if x.frame.traffic then x.marked .isolated else x
  (s.onQueue side fun _ => kept).countQueue side fun c =>
    { c with isolatedRemoved := satAdd c.isolatedRemoved gone.length }

/-! ## Report sends and the settling of an event (R177, R178, R180, R181) -/

/-- The frame of a send of a report, with the parameters as they stand (R180, Table 12-8). The bits of its snapshot that
Table 12-7 gives no flag of the group are 0: log entry 23, DESIGN CHOICE. -/
def Report.frame (p : Params) (r : Report) : Frame where
  body := .mgmt false p.reportStation p.ownStation
  cls := p.mgmtClass
  hop := p.originHop
  payload :=
    [0x02, r.seq, r.group.code, 0x00, countByte r.level] ++ be16 r.snapshot ++ be32 r.time ++ [countByte (r.sends + 1)]

/-- The outstanding report after a send (R180). -/
def Report.sentAt (now : CTime) (r : Report) : Report :=
  if r.outstanding then { r with sends := r.sends + 1, retry := some (now + Config.reportRetry) } else r

/-- A send of a report composed, admitted toward REPORT_SIDE and counted, whatever admission answers (R180). -/
def State.sendReport (r : Report) (s : State) : State :=
  match s.admitFrame s.agent.params.reportSide (r.frame s.agent.params) with
  | (s1, result) =>
    let s2 := s1.withReports (s1.events.reports.map (Report.sentAt s.now))
    s2.countEvents fun c =>
      { c with
        sends := bump c.sends
        sendRefused := if result = .queued then c.sendRefused else bump c.sendRefused }

/-- The send that is due is made: the outstanding report has one due while its retry deadline is absent. With no
report station it is given up, and so is each next report under the same test (R181). -/
def State.sendDue (s : State) : State :=
  match outstandingReport s.events.reports with
  | some r =>
    if r.retry.isSome then s
    else if s.agent.params.reportStation = stationNone then
      (s.withReports []).countEvents fun c => { c with givenUp := satAdd c.givenUp s.events.reports.length }
    else s.sendReport r
  | none => s

/-- The snapshots of the reports made so far fixed (Table 10-2). -/
def State.fixSnapshots (s : State) : State := { s with events := s.events.fixSnapshots }

/-- The end of an event: the reports it made take their snapshots and the send that is due is made (log entry 7,
DEDUCED). The snapshots are fixed before that send, so a flag that the send itself sets in the same event, or a response
composed after it, is in none of them; a report that the send's own flags make takes its snapshot after it (log entry 7,
DESIGN CHOICE: Table 10-2 has the flags after the event, R176 those at the report's creation). -/
def State.settle (s : State) : State := s.fixSnapshots.sendDue.fixSnapshots

/-- An event of the running part, taken whole. While the part is held, unpowered or STARTING no event is taken
(R190). -/
def State.event (f : State → State) (s : State) : State := if s.running then (f s).settle else s

/-- One millisecond of coupler time; it does not run before STARTING ends (R192; log entry 6, DESIGN CHOICE). -/
def State.tick (s : State) : State := if s.running then { s with now := s.now + 1 } else s

end Sys2Proof.Machine
end

