-- ==== Sys2Proof/Machine/Operands.lean ====
section
/-! DEFINITION. The argument layouts of spec/12_encodings.md: the steering entry, the header item, the trip
configuration, parameter identifiers and state codes, each read from bytes and written to bytes. -/

namespace Sys2Proof.Machine

/-! ## Steering entry (Table 12-5) -/

/-- Match mode codes. -/
def MatchMode.code : MatchMode → BitVec 3
  | .exact => 0
  | .mask n => BitVec.ofNat 3 (n.val + 1)
  | .any => 5

/-- The match mode of a code; 6 and 7 are undefined. -/
def MatchMode.ofCode (c : BitVec 3) : Option MatchMode :=
  if c = 0 then some .exact
  else if c = 1 then some (.mask 0)
  else if c = 2 then some (.mask 1)
  else if c = 3 then some (.mask 2)
  else if c = 4 then some (.mask 3)
  else if c = 5 then some .any
  else none

/-- Action codes. -/
def Action.code : Action → BitVec 2
  | .pass => 0
  | .drop => 1
  | .rewrite => 2
  | .proxy => 3

/-- The action of a code. -/
def Action.ofCode (c : BitVec 2) : Action :=
  if c = 0 then .pass else if c = 1 then .drop else if c = 2 then .rewrite else .proxy

/-- Class setting codes: 0 KEEP, 1 to 4 class 0 to 3. -/
def classSettingCode : Option FClass → BitVec 3
  | none => 0
  | some c => c.setWidth 3 + 1

/-- The class setting of a code; 5 to 7 are undefined. -/
def classSettingOfCode (c : BitVec 3) : Option (Option FClass) :=
  if c = 0 then some none else if c ≤ 4 then some (some ((c - 1).setWidth 2)) else none

/-- Change filter codes. -/
def Filter.code : Filter → BitVec 2
  | .none => 0
  | .repeated => 1
  | .settle2 => 2
  | .settle3 => 3

/-- The change filter of a code. -/
def Filter.ofCode (c : BitVec 2) : Filter :=
  if c = 0 then .none else if c = 1 then .repeated else if c = 2 then .settle2 else .settle3

/-- Trip source codes: 0 NONE, 1 to 4 source 0 to 3. -/
def tripFieldCode : Option (Fin 4) → BitVec 3
  | none => 0
  | some k => BitVec.ofNat 3 (k.val + 1)

/-- The trip source of a code; 5 to 7 are undefined. -/
def tripFieldOfCode (c : BitVec 3) : Option (Option (Fin 4)) :=
  if c = 0 then some none
  else if c = 1 then some (some 0)
  else if c = 2 then some (some 1)
  else if c = 3 then some (some 2)
  else if c = 4 then some (some 3)
  else none

/-- An entry in the 12-byte encoding. -/
def Entry.bytes (e : Entry) : Payload :=
  [BitVec.ofBool e.inUse ++ BitVec.ofBool e.onB ++ BitVec.ofBool e.onA ++ BitVec.ofBool e.query ++
      BitVec.ofBool e.data ++ e.mode.code,
    e.action.code ++ BitVec.ofBool e.keepItem ++ classSettingCode e.setClass ++ e.filter.code,
    0#1 ++ tripFieldCode e.trip ++ e.tag.extractLsb' 16 4, e.tag.extractLsb' 8 8, e.tag.extractLsb' 0 8] ++
    tagBytes e.rewriteTag ++ be16 e.window ++ be16 e.freshness

/-- The entry of 12 bytes: nothing when a field holds a code that is assigned to no value or an unused bit is set
(R120, R194). -/
def Entry.ofBytes (bytes : Payload) : Option Entry :=
  match bytes with
  | [b0, b1, b2, b3, b4, b5, b6, b7, b8, b9, b10, b11] =>
    match MatchMode.ofCode (b0.extractLsb' 0 3), classSettingOfCode (b1.extractLsb' 2 3),
      tripFieldOfCode (b2.extractLsb' 4 3), argTag b5 b6 b7 with
    | some mode, some setClass, some trip, some rewriteTag =>
      if b2.getLsbD 7 then none
      else
        some
          { inUse := b0.getLsbD 7
            onA := b0.getLsbD 5
            onB := b0.getLsbD 6
            data := b0.getLsbD 3
            query := b0.getLsbD 4
            mode := mode
            tag := readTag b2 b3 b4
            action := Action.ofCode (b1.extractLsb' 6 2)
            rewriteTag := rewriteTag
            keepItem := b1.getLsbD 5
            setClass := setClass
            filter := Filter.ofCode (b1.extractLsb' 0 2)
            window := b8 ++ b9
            freshness := b10 ++ b11
            trip := trip }
    | _, _, _, _ => none
  | _ => none

/-! ## Header item less its type byte (Table 12-6) -/

/-- PASS 0, DROP 1. -/
def PassDrop.code : PassDrop → Byte
  | .pass => 0
  | .drop => 1

/-- The setting of a code. -/
def PassDrop.ofCode (b : Byte) : Option PassDrop :=
  if b = 0 then some .pass else if b = 1 then some .drop else none

/-- The 15 bytes of a header. -/
def BankHeader.bytes (h : BankHeader) : Payload :=
  tagBytes h.masks[0] ++ tagBytes h.masks[1] ++ tagBytes h.masks[2] ++ tagBytes h.masks[3] ++
    [h.defaults.a.code, h.defaults.b.code, h.mgmtPass.code]

/-- The header of 15 bytes: nothing for a mask with a bit above the 20 tag bits, or a code that names neither PASS nor
DROP (R121, R166). -/
def BankHeader.ofBytes (bytes : Payload) : Option BankHeader :=
  match bytes with
  | [p0, p1, p2, q0, q1, q2, r0, r1, r2, t0, t1, t2, da, db, mp] =>
    match argTag p0 p1 p2, argTag q0 q1 q2, argTag r0 r1 r2, argTag t0 t1 t2 with
    | some m0, some m1, some m2, some m3 =>
      match PassDrop.ofCode da, PassDrop.ofCode db, PassDrop.ofCode mp with
      | some a, some b, some p => some { masks := #v[m0, m1, m2, m3], defaults := ⟨a, b⟩, mgmtPass := p }
      | _, _, _ => none
    | _, _, _, _ => none
  | _ => none

/-! ## Transfer items (Table 12-6) -/

/-- An item of a table transfer (R166). -/
inductive Item where
  | header (h : BankHeader)
  | entry (index : Fin 64) (e : Entry)
  deriving DecidableEq, Repr

/-- An entry index 0 to 63. -/
def entryIndex (b : Byte) : Option (Fin 64) := if h : b.toNat < 64 then some ⟨b.toNat, h⟩ else none

/-- The item of some bytes: nothing when it is malformed by R166. -/
def Item.ofBytes (bytes : Payload) : Option Item :=
  match bytes with
  | [] => none
  | kind :: rest =>
    if kind = 1 then (BankHeader.ofBytes rest).map Item.header
    else if kind = 2 then
      match rest with
      | i :: body =>
        match entryIndex i, Entry.ofBytes body with
        | some index, some e => some (.entry index e)
        | _, _ => none
      | [] => none
    else none

/-- A bank with an item applied (R166). -/
def Bank.apply (b : Bank) : Item → Bank
  | .header h => { b with header := h }
  | .entry i e => { b with entries := b.entries.set i e }

/-- The sum modulo 65536 of some bytes (R166). -/
def byteSum (bytes : Payload) : BitVec 16 := bytes.foldl (fun n b => n + b.setWidth 16) 0

/-! ## Trip configuration (SET_TRIP arguments, Table 12-3) -/

/-- One source of three bytes: undefined for offset FFh; nothing for an offset above 23 or a mask of 0 (R140). -/
def TripSource.ofBytes (offset value mask : Byte) : Option (Option TripSource) :=
  if offset = 0xFF then some none
  else if offset.toNat ≤ 23 ∧ mask ≠ 0 then some (some ⟨offset.toNat, value, mask⟩)
  else none

/-- A trip configuration that names no undefined source as required (R140). -/
def TripConfig.coherent (c : TripConfig) : Bool :=
  (List.finRange 4).all fun k => !c.required.getLsbD k || (c.sources[k]).isSome

/-- The configuration of the 15 argument bytes of SET_TRIP, when R140 step 3 finds nothing against it. -/
def TripConfig.ofBytes (bytes : Payload) : Option TripConfig :=
  match bytes with
  | [o0, v0, m0, o1, v1, m1, o2, v2, m2, o3, v3, m3, required, wh, wl] =>
    match TripSource.ofBytes o0 v0 m0, TripSource.ofBytes o1 v1 m1, TripSource.ofBytes o2 v2 m2,
      TripSource.ofBytes o3 v3 m3 with
    | some s0, some s1, some s2, some s3 =>
      let c : TripConfig :=
        { sources := #v[s0, s1, s2, s3], required := required.extractLsb' 0 4, window := wh ++ wl }
      if required.extractLsb' 4 4 = 0 ∧ c.coherent ∧ 1 ≤ c.window.toNat ∧ c.window.toNat ≤ 10000 then some c else none
    | _, _, _, _ => none
  | _ => none

/-- The three bytes of a source. spec/ gives the value and mask of an undefined source no codes, so they are the two
free bytes (log entry 2, DESIGN CHOICE). -/
def tripSourceBytes (x : Option TripSource) (free : Payload) : Payload :=
  match x with
  | some d => [countByte d.offset, d.value, d.mask]
  | none => 0xFF :: free

/-- The 15 bytes of a trip configuration, with eight bytes for the fields of undefined sources. -/
def TripConfig.bytes (c : TripConfig) (free : Payload) : Payload :=
  tripSourceBytes c.sources[0] (free.take 2) ++ tripSourceBytes c.sources[1] ((free.drop 2).take 2) ++
    tripSourceBytes c.sources[2] ((free.drop 4).take 2) ++ tripSourceBytes c.sources[3] ((free.drop 6).take 2) ++
    [c.required.setWidth 8] ++ be16 c.window

/-! ## Parameters (Tables 8-5 and 12-4) -/

/-- The parameters, in the order of their identifiers. -/
inductive ParamId where
  | ownStation
  | start (side : Side)
  | retryLimit
  | autoRecover
  | ceiling (side : Side)
  | ageLimit (c : FClass)
  | originHop
  | mgmtClass
  | queryTimeout
  | reportStation
  | reportSide
  | level (g : Group)
  deriving DecidableEq, Repr

/-- The parameter an identifier names. -/
def ParamId.ofCode (b : Byte) : Option ParamId :=
  match b.toNat with
  | 0 => some .ownStation
  | 1 => some (.start .a)
  | 2 => some (.start .b)
  | 3 => some .retryLimit
  | 4 => some .autoRecover
  | 5 => some (.ceiling .a)
  | 6 => some (.ceiling .b)
  | 7 => some (.ageLimit 0)
  | 8 => some (.ageLimit 1)
  | 9 => some (.ageLimit 2)
  | 10 => some (.ageLimit 3)
  | 11 => some .originHop
  | 12 => some .mgmtClass
  | 13 => some .queryTimeout
  | 14 => some .reportStation
  | 15 => some .reportSide
  | 16 => some (.level .port)
  | 17 => some (.level .table)
  | 18 => some (.level .traffic)
  | 19 => some (.level .guard)
  | _ => none

/-- A parameter's value as two bytes hold it. -/
def Params.value (p : Params) : ParamId → BitVec 16
  | .ownStation => p.ownStation.setWidth 16
  | .start side => if p.start.get side then 1 else 0
  | .retryLimit => BitVec.ofNat 16 p.retryLimit
  | .autoRecover => p.autoRecover
  | .ceiling side => BitVec.ofNat 16 (p.ceiling.get side)
  | .ageLimit c => p.ageLimit c
  | .originHop => p.originHop.setWidth 16
  | .mgmtClass => p.mgmtClass.setWidth 16
  | .queryTimeout => p.queryTimeout
  | .reportStation => p.reportStation.setWidth 16
  | .reportSide => p.reportSide.code.setWidth 16
  | .level g => BitVec.ofNat 16 (p.levels.get g)

/-- The least and the greatest value of a parameter (Table 8-5). -/
def ParamId.range : ParamId → Nat × Nat
  | .ownStation => (1, 4094)
  | .start _ => (0, 1)
  | .retryLimit => (0, 7)
  | .autoRecover => (0, 60000)
  | .ceiling _ => (8, 48)
  | .ageLimit _ => (0, 5000)
  | .originHop => (1, 7)
  | .mgmtClass => (0, 3)
  | .queryTimeout => (1, 1000)
  | .reportStation => (1, 4095)
  | .reportSide => (0, 1)
  | .level _ => (0, 7)

/-- A value within a parameter's range. -/
def ParamId.admits (i : ParamId) (v : BitVec 16) : Bool :=
  decide (i.range.1 ≤ v.toNat) && decide (v.toNat ≤ i.range.2)

/-- A parameter's value replaced. -/
def Params.withValue (p : Params) (i : ParamId) (v : BitVec 16) : Params :=
  match i with
  | .ownStation => { p with ownStation := v.setWidth 12 }
  | .start side => { p with start := p.start.set side (v != 0) }
  | .retryLimit => { p with retryLimit := v.toNat }
  | .autoRecover => { p with autoRecover := v }
  | .ceiling side => { p with ceiling := p.ceiling.set side v.toNat }
  | .ageLimit c => { p with ageLimits := p.ageLimits.set c.toNat v }
  | .originHop => { p with originHop := v.setWidth 3 }
  | .mgmtClass => { p with mgmtClass := v.setWidth 2 }
  | .queryTimeout => { p with queryTimeout := v }
  | .reportStation => { p with reportStation := v.setWidth 12 }
  | .reportSide => { p with reportSide := if v = 0 then .a else .b }
  | .level g => { p with levels := p.levels.set g v.toNat }

/-! ## State codes (Table 12-9) -/

/-- Side state codes. -/
def SideState.code : SideState → Byte
  | .active => 0
  | .warned => 1
  | .silent => 2
  | .off => 3

/-- Shadow state codes. -/
def ShadowState.code : ShadowState → Byte
  | .clean => 0
  | .loading _ => 1
  | .incomplete => 2

/-- Trip state codes. -/
def TripState.code : TripState → Byte
  | .disarmed => 0
  | .watching => 1
  | .collecting => 2
  | .tripped => 3

/-- Removal mark codes. -/
def Mark.code : Mark → Byte
  | .none => 0
  | .stale => 1
  | .cancelled => 2
  | .isolated => 3

/-- Freshness codes. -/
def Freshness.code : Freshness → BitVec 2
  | .none => 0
  | .fresh => 1
  | .stale => 2

/-- Slot state codes. -/
def SlotState.code : SlotState → Byte
  | .blank => 0
  | .valid => 1
  | .damaged => 2

/-- Slot numbers. -/
def SlotId.code : SlotId → Byte
  | .zero => 0
  | .one => 1

/-! ## Counter sets in row order (Table 12-11) -/

/-- Table 1-6 in row order. -/
def ClassifierCounters.list (c : ClassifierCounters) : List Counter :=
  [c.dataTaken, c.queryTaken, c.mgmtTaken, c.unmatched, c.forwarded, c.malformed, c.isolated, c.default, c.table,
    c.repeated, c.unsettled, c.hopExpired, c.management, c.badAddress]

/-- Table 2-4 in row order. -/
def TagCounters.list (c : TagCounters) : List Counter :=
  [c.allocations, c.replacements, c.memoryFull, c.expiries, c.flushed]

/-- Table 3-3 in row order. -/
def ProxyCounters.list (c : ProxyCounters) : List Counter :=
  [c.answered, c.answerRefused, c.coalesced, c.tracked, c.untracked, c.withdrawn, c.settled, c.timeout, c.cleared]

/-- Table 4-5 in row order. -/
def QueueCounters.list (c : QueueCounters) : List Counter :=
  [c.admitted, c.sent, c.notAccepting, c.isolatedRefused, c.poolFull, c.ceiling, c.displaced, c.stale, c.cancelled,
    c.undeliverable, c.isolatedRemoved, c.purgedSilent, c.purgedOff, c.purgedRestart]

/-- Table 5-5 in row order. -/
def PortCounters.list (c : PortCounters) : List Counter :=
  [c.receivedGood, c.badFrame, c.receivedWhileOff, c.attemptStarted, c.sent, c.lost, c.noack, c.lineError, c.aborted,
    c.warnedEntry, c.silentEntry, c.automaticRecovery, c.commandedRecovery]

/-- Table 6-4 in row order. -/
def BankCounters.list (c : BankCounters) : List Counter := [c.commitDone, c.commitRefused, c.shadowWrites]

/-- Table 7-4 in row order. -/
def TripCounters.list (c : TripCounters) : List Counter :=
  c.assertions.toList ++ [c.collections, c.trips, c.lapses, c.abandoned, c.releases]

/-- Table 8-8 in row order. -/
def AgentCounters.list (c : AgentCounters) : List Counter :=
  [c.commands, c.duplicates, c.unknownCommand, c.refusedNotOwner, c.openRefused, c.badMessage, c.ignoredMessage,
    c.responseLost, c.sessionsOpened, c.closes, c.leaseExpiries]

/-- Table 10-3 in row order. -/
def EventCounters.list (c : EventCounters) : List Counter :=
  [c.created, c.sends, c.sendRefused, c.acknowledged, c.ignoredAck, c.givenUp, c.discarded]

end Sys2Proof.Machine
end

