-- ==== Sys2Proof/Machine/TagMemory.lean ====
section
/-! DEFINITION. The tag memory and the change filters (spec/02_tag_memory_and_change_filters.md), with the step
FRESHNESS_DEADLINE. -/

namespace Sys2Proof.Machine

/-- Record numbers in order. -/
def recordNumbers : List (Fin 48) := List.finRange 48

/-- A record with the given key (R33). -/
def Record.keyed (r : Record) (origin : Side) (tag : Tag) : Bool := r.origin == origin && r.tag == tag

/-- The record held for a key (R33, R35). -/
def TagMemory.find (t : TagMemory) (origin : Side) (tag : Tag) : Option (Fin 48) :=
  recordNumbers.find? fun i =>
    match t.records[i] with
    | some r => r.keyed origin tag
    | none => false

/-- A record changed. -/
def TagMemory.modify (t : TagMemory) (i : Fin 48) (f : Record → Record) : TagMemory :=
  { t with records := t.records.set i ((t.records[i]).map f) }

/-- The lowest-numbered free record (R36 step 1). -/
def TagMemory.lowestFree (t : TagMemory) : Option (Fin 48) := recordNumbers.find? fun i => (t.records[i]).isNone

/-- The age of a record (R36 step 2). -/
def Record.age (now : CTime) (r : Record) : CTime := now - r.lastUse

/-- The unbound held record with the oldest last use, the lowest-numbered among equals (R36 step 2). -/
def TagMemory.oldestUnbound (t : TagMemory) (now : CTime) : Option (Fin 48) :=
  (recordNumbers.foldl
      (fun (best : Option (Fin 48 × CTime)) i =>
        match t.records[i] with
        | none => best
        | some r =>
          if r.bound then best
          else
            match best with
            | none => some (i, r.age now)
            | some (j, age) => if age < r.age now then some (i, r.age now) else some (j, age))
      none).map Prod.fst

/-- A record just allocated (R36). -/
def Record.allocated (origin : Side) (tag : Tag) (now : CTime) : Record where
  origin := origin
  tag := tag
  held := none
  freshness := .none
  freshUntil := 0
  lastForwarded := none
  candidate := none
  candidateCount := 0
  lastUse := now
  bound := false

/-- A record allocated for a key (R36, R38). When none can be had the refusal is counted (R37). -/
def TagMemory.allocate (t : TagMemory) (origin : Side) (tag : Tag) (now : CTime) : TagMemory × Option (Fin 48) :=
  let fresh := some (Record.allocated origin tag now)
  match t.lowestFree with
  | some i =>
    ({ records := t.records.set i fresh
       counters := { t.counters with allocations := bump t.counters.allocations } }, some i)
  | none =>
    match t.oldestUnbound now with
    | some i =>
      ({ records := t.records.set i fresh
         counters :=
          { t.counters with
            allocations := bump t.counters.allocations
            replacements := bump t.counters.replacements } }, some i)
    | none => ({ t with counters := { t.counters with memoryFull := bump t.counters.memoryFull } }, none)

/-- A lookup: a record found has its last use set (R35). -/
def TagMemory.lookup (t : TagMemory) (origin : Side) (tag : Tag) (now : CTime) : TagMemory × Option (Fin 48) :=
  match t.find origin tag with
  | some i => (t.modify i fun r => { r with lastUse := now }, some i)
  | none => (t, none)

/-- The result of the tag memory step (R22). -/
inductive Verdict where
  | pass
  | repeated
  | unsettled
  deriving DecidableEq, Repr

/-- The value accepted and sent on: held, last forwarded now, no candidate (R41, R42, R44). -/
def Record.accept (r : Record) (payload : Payload) (now : CTime) : Record :=
  { r with held := some payload, lastForwarded := some now, candidate := none, candidateCount := 0 }

/-- REPEAT absorbs a payload equal to the held value within the window since it was last forwarded (R42). -/
def Record.repeats (r : Record) (payload : Payload) (window : BitVec 16) (now : CTime) : Bool :=
  match r.held, r.lastForwarded with
  | some v, some t => v == payload && decide (now - t < window.setWidth 32)
  | _, _ => false

/-- SETTLE2 and SETTLE3 with `n` sightings (R43, R44). -/
def Record.settling (r : Record) (n : Nat) (payload : Payload) (now : CTime) : Record × Verdict :=
  if r.held = some payload then (r.accept payload now, .pass)
  else if r.candidate = some payload then
    if n ≤ r.candidateCount + 1 then (r.accept payload now, .pass)
    else ({ r with candidateCount := r.candidateCount + 1 }, .unsettled)
  else ({ r with candidate := some payload, candidateCount := 1 }, .unsettled)

/-- The change filter (R41 to R45). -/
def Record.filtered (r : Record) (filter : Filter) (window : BitVec 16) (payload : Payload) (now : CTime) :
    Record × Verdict :=
  match filter with
  | .none => (r.accept payload now, .pass)
  | .repeated => if r.repeats payload window now then (r, .repeated) else (r.accept payload now, .pass)
  | .settle2 => r.settling 2 payload now
  | .settle3 => r.settling 3 payload now

/-- Freshness under PROXY: renewed when the frame passed or was absorbed as *repeat* (R46). -/
def Record.renewed (r : Record) (verdict : Verdict) (freshness : BitVec 16) (now : CTime) : Record :=
  if verdict = .unsettled then r
  else { r with freshness := .fresh, freshUntil := now + freshness.setWidth 32 }

/-- What the tag memory step does to its record (R40). Under an entry that is not PROXY, a reply that has settled a
query leaves the record as it was (R62): the filter gives its verdict on the reply and changes nothing (log entry 24,
DEDUCED). -/
def Record.step (r : Record) (e : Entry) (settled : Bool) (payload : Payload) (now : CTime) : Record × Verdict :=
  match r.filtered e.filter e.window payload now with
  | (r1, verdict) =>
    (if e.action = .proxy then r1.renewed verdict e.freshness now
     else if settled then r
     else r1, verdict)

/-- The record for a key, allocated when none is held (R40). A lookup and an allocation both set last use. -/
def TagMemory.recordFor (t : TagMemory) (origin : Side) (tag : Tag) (now : CTime) : TagMemory × Option (Fin 48) :=
  match t.lookup origin tag now with
  | (t1, some i) => (t1, some i)
  | (t1, none) => t1.allocate origin tag now

/-- The tag memory step for a DATA frame of ingress side `side` that wins entry `e`, having settled a query or not (R22,
R37, R40, R62). -/
def State.tagStep (side : Side) (tag : Tag) (settled : Bool) (payload : Payload) (e : Entry) (s : State) :
    State × Verdict :=
  match s.tags.recordFor side tag s.now with
  | (t, some i) =>
    match t.records[i] with
    | some r =>
      match r.step e settled payload s.now with
      | (r1, verdict) => ({ s with tags := { t with records := t.records.set i (some r1) } }, verdict)
    | none => ({ s with tags := t }, .pass)
  | (t, none) => ({ s with tags := t }.setFlag .tagMemoryFull, .pass)

/-- A record bound by an outstanding entry, or unbound (R39). -/
def TagMemory.bind (t : TagMemory) (i : Fin 48) (bound : Bool) : TagMemory :=
  t.modify i fun r => { r with bound := bound }

/-- The freshness deadline of a record, when it has been reached (R47). -/
def TagMemory.expire (t : TagMemory) (i : Fin 48) (now : CTime) : TagMemory :=
  match t.records[i] with
  | some r =>
    if r.freshness = .fresh ∧ reached now r.freshUntil then
      { records := t.records.set i (some { r with freshness := .stale })
        counters := { t.counters with expiries := bump t.counters.expiries } }
    else t
  | none => t

/-- FRESHNESS_DEADLINE (R47). -/
def execFreshnessDeadline (record : Fin 48) (s : State) : Host.Outcome State Fault Refusal :=
  .next (s.event (fun s => { s with tags := s.tags.expire record s.now }))

/-- The record is held and not bound. -/
def Record.flushable : Option Record → Bool
  | some r => !r.bound
  | none => false

/-- FLUSH_RECORDS: every held record that is not bound is freed (R48). -/
def TagMemory.flush (t : TagMemory) : TagMemory :=
  let freed := t.records.toList.countP Record.flushable
  { records := t.records.map fun x => if Record.flushable x then none else x
    counters := { t.counters with flushed := satAdd t.counters.flushed freed } }

/-- Held records. -/
def TagMemory.heldCount (t : TagMemory) : Nat := t.records.toList.countP Option.isSome

end Sys2Proof.Machine
end

