-- ==== Sys2Proof/Machine/QueryProxy.lean ====
section
/-! DEFINITION. The query proxy (spec/03_query_proxy.md): the proxy step, settlement and the clearing of the list, with
the step QUERY_ENTRY_DEADLINE. -/

namespace Sys2Proof.Machine

/-- The entry of a tag and target side (R52). -/
def QueryEntry.keyed (q : QueryEntry) (target : Side) (tag : Tag) : Bool := q.target == target && q.tag == tag

/-- The outstanding entry for a tag and target side. -/
def Proxy.find (p : Proxy) (target : Side) (tag : Tag) : Option QueryEntry := p.list.find? (·.keyed target tag)

/-- An entry removed and its record unbound (R52). -/
def State.removeQuery (q : QueryEntry) (s : State) : State :=
  { s with
    proxy := { s.proxy with list := s.proxy.list.eraseP (·.keyed q.target q.tag) }
    tags := s.tags.bind q.record false }

/-- A reply received on side `side` settles a query: the list holds one for its tag and that target side (R61). -/
def State.settles (side : Side) (tag : Tag) (s : State) : Bool := (s.proxy.find side tag).isSome

/-- Settlement by a DATA frame with Reply set, received on side `side` (R61). -/
def State.settleReply (side : Side) (tag : Tag) (s : State) : State :=
  match s.proxy.find side tag with
  | some q => (s.removeQuery q).countProxy side.far fun c => { c with settled := bump c.settled }
  | none => s

/-- The list cleared at entry into TRIPPED: records unbound, each entry counted *cleared* under its asking side
(R65). -/
def State.clearQueries (s : State) : State :=
  let s1 :=
    s.proxy.list.foldl
      (fun (s : State) q =>
        { s with tags := s.tags.bind q.record false }.countProxy q.target.far fun c =>
          { c with cleared := bump c.cleared })
      s
  { s1 with proxy := { s1.proxy with list := [] } }

/-- The result of the proxy step (R23). -/
inductive ProxyResult where
  | answered
  | coalesced
  | tracked
  | untracked
  deriving DecidableEq, Repr

/-- The answer composed from a held value (R55). -/
def answerFrame (p : Params) (tag : Tag) (payload : Payload) (cls : FClass) : Frame where
  body := .data true tag
  cls := cls
  hop := p.originHop
  payload := payload

/-- A query answered from a FRESH record: the answer is admitted toward the asking side (R55, R56). -/
def State.answerQuery (side : Side) (tag : Tag) (payload : Payload) (cls : FClass) (s : State) : State :=
  match s.admitFrame side (answerFrame s.agent.params tag payload cls) with
  | (s1, result) =>
    s1.countProxy side fun c =>
      { c with
        answered := bump c.answered
        answerRefused := if result = .queued then c.answerRefused else bump c.answerRefused }

/-- The coalesced count of an entry incremented (R57). -/
def QueryEntry.coalesce (q : QueryEntry) : QueryEntry :=
  { q with coalesced := min (q.coalesced + 1) Config.coalescedTop }

/-- A query counted against the entry of its tag and target side (R57). -/
def State.coalesceQuery (side : Side) (tag : Tag) (s : State) : State :=
  { s with
    proxy :=
      { s.proxy with
        list :=
          s.proxy.list.map fun (q : QueryEntry) => if q.keyed side.far tag then q.coalesce else q } }.countProxy side
    fun c => { c with coalesced := bump c.coalesced }

/-- A query forwarded untracked for a full list or no record (R59). -/
def State.leaveUntracked (side : Side) (s : State) : State :=
  (s.setFlag .queryUntracked).countProxy side fun c => { c with untracked := bump c.untracked }

/-- An outstanding entry created for a query, its record bound (R58). -/
def State.trackQuery (side : Side) (tag : Tag) (cls : FClass) (i : Fin 48) (s : State) : State :=
  let q : QueryEntry :=
    { tag := tag
      target := side.far
      deadline := s.now + s.agent.params.queryTimeout.setWidth 32
      coalesced := 1
      cls := cls
      record := i }
  { s with
    proxy := { s.proxy with list := s.proxy.list ++ [q] }
    tags := s.tags.bind i true }.countProxy side fun c => { c with tracked := bump c.tracked }

/-- The held value of a FRESH record (R54 row 1, R55). -/
def TagMemory.freshValue (t : TagMemory) (i : Fin 48) : Option Payload :=
  match t.records[i] with
  | some r => if r.freshness = .fresh then r.held else none
  | none => none

/-- Rows 2 to 6 of Table 3-2, with the record the lookup found, if any. -/
def State.askAcross (side : Side) (tag : Tag) (hop : Hop) (cls : FClass) (found : Option (Fin 48)) (s : State) :
    State × ProxyResult :=
  if (s.proxy.find side.far tag).isSome then (s.coalesceQuery side tag, .coalesced)
  else if hop = 0 then (s, .untracked)
  else if Config.outstanding ≤ s.proxy.list.length then (s.leaveUntracked side, .untracked)
  else
    match found with
    | some i => (s.trackQuery side tag cls i, .tracked)
    | none =>
      match s.tags.allocate side.far tag s.now with
      | (t, some i) => ({ s with tags := t }.trackQuery side tag cls i, .tracked)
      | (t, none) => (({ s with tags := t }.setFlag .tagMemoryFull).leaveUntracked side, .untracked)

/-- The proxy step for a QUERY received on side `side` (R54, Table 3-2). -/
def State.proxyStep (side : Side) (tag : Tag) (hop : Hop) (cls : FClass) (s : State) : State × ProxyResult :=
  match s.tags.lookup side.far tag s.now with
  | (t, found) =>
    let s1 := { s with tags := t }
    match found.bind t.freshValue with
    | some value => (s1.answerQuery side tag value cls, .answered)
    | none => s1.askAcross side tag hop cls found

/-- A tracked query refused at admission: its entry is withdrawn (R60). -/
def State.withdrawQuery (side : Side) (tag : Tag) (s : State) : State :=
  match s.proxy.find side.far tag with
  | some q => (s.removeQuery q).countProxy side fun c => { c with withdrawn := bump c.withdrawn }
  | none => s

/-- An outstanding entry's deadline, when it has been reached (R63). -/
def State.timeoutQuery (place : Nat) (s : State) : State :=
  match s.proxy.list[place]? with
  | some q =>
    if reached s.now q.deadline then
      ((s.removeQuery q).setFlag .queryTimeout).countProxy q.target.far fun c => { c with timeout := bump c.timeout }
    else s
  | none => s

/-- QUERY_ENTRY_DEADLINE (R63). -/
def execQueryEntryDeadline (place : Nat) (s : State) : Host.Outcome State Fault Refusal :=
  .next (s.event (State.timeoutQuery place))

end Sys2Proof.Machine
end

