-- ==== Sys2Proof/Machine/TripUnit.lean ====
section
/-! DEFINITION. The trip unit (spec/07_isolation_trip.md): assertions, entry into TRIPPED and the step
WINDOW_DEADLINE. -/

namespace Sys2Proof.Machine

/-- A payload asserts a source definition (R133). -/
def TripSource.asserts (d : TripSource) (payload : Payload) : Bool :=
  match payload[d.offset]? with
  | some b => b &&& d.mask == d.value &&& d.mask
  | none => false

/-- A payload asserts source `k`; an undefined source is asserted by none (R133). -/
def TripConfig.asserts (c : TripConfig) (k : Fin 4) (payload : Payload) : Bool :=
  match c.sources[k] with
  | some d => d.asserts payload
  | none => false

/-- Entry into TRIPPED (R137): the trip unit, the flag, the trip purge of both queues (R91) and the clearing of the
outstanding list (R65). -/
def State.enterTripped (k : Fin 4) (side : Side) (tag : Tag) (s : State) : State :=
  let s1 :=
    { s with
      trip :=
        { s.trip with
          state := .tripped
          asserted := s.trip.config.required
          deadline := none
          last := some ⟨s.now, k, side, tag⟩
          isol := true
          counters := { s.trip.counters with trips := bump s.trip.counters.trips } } }
  (((s1.setFlag .tripped).tripPurge .a).tripPurge .b).clearQueries

/-- A required source added to a collection; the answer says whether it completed the required set (R135). -/
def State.collect (k : Fin 4) (side : Side) (tag : Tag) (s : State) : State × Bool :=
  let set := s.trip.asserted ||| sourceBit k
  if set = s.trip.config.required then (s.enterTripped k side tag, true)
  else ({ s with trip := { s.trip with asserted := set } }, false)

/-- A collection begun in WATCHING (R135). -/
def State.beginCollection (s : State) : State :=
  { s with
    trip :=
      { s.trip with
        state := .collecting
        asserted := 0
        deadline := some (s.now + s.trip.config.window.setWidth 32)
        counters := { s.trip.counters with collections := bump s.trip.counters.collections } } }

/-- An assertion of source `k`, counted and decided by the trip state (R135). -/
def State.assertSource (k : Fin 4) (side : Side) (tag : Tag) (s : State) : State × Bool :=
  let s1 := s.countTrip fun c => { c with assertions := c.assertions.set k (bump c.assertions[k]) }
  if !s.trip.config.required.getLsbD k then (s1, false)
  else
    match s.trip.state with
    | .watching => s1.beginCollection.collect k side tag
    | .collecting => if s.trip.asserted.getLsbD k then (s1, false) else s1.collect k side tag
    | .disarmed | .tripped => (s1, false)

/-- The offer of a DATA payload as an assertion of source `k` (R20, R133): true for *completed*. -/
def State.offerTrip (k : Fin 4) (side : Side) (tag : Tag) (payload : Payload) (s : State) : State × Bool :=
  if s.trip.config.asserts k payload then s.assertSource k side tag else (s, false)

/-- The window deadline of a collection, when it has been reached (R136). -/
def State.lapseWindow (s : State) : State :=
  if s.trip.state = .collecting ∧ due s.now s.trip.deadline then
    { s with
      trip :=
        { s.trip with
          state := .watching
          asserted := 0
          deadline := none
          counters := { s.trip.counters with lapses := bump s.trip.counters.lapses } } }.setFlag .tripLapsed
  else s

/-- WINDOW_DEADLINE (R136). -/
def execWindowDeadline (s : State) : Host.Outcome State Fault Refusal := .next (s.event State.lapseWindow)

end Sys2Proof.Machine
end

