-- ==== Sys2Proof/Machine/Classifier.lean ====
section
/-! DEFINITION. The classifier (spec/01_steering_table_and_classification.md): matching, the steps of Table 1-5 for
DATA and QUERY frames, and the routing of MGMT frames; and what a port does with a good frame before it (R96, R98). -/

namespace Sys2Proof.Machine

/-! ## Matching (R3, R4, R13, R14) -/

/-- The entry's ingress sides include a side (R3). -/
def Entry.onSide (e : Entry) : Side → Bool
  | .a => e.onA
  | .b => e.onB

/-- The entry's tag matches a frame's tag under its match mode and the bank's masks (R4). -/
def Entry.matchesTag (e : Entry) (h : BankHeader) (t : Tag) : Bool :=
  match e.mode with
  | .exact => t == e.tag
  | .mask n => t &&& h.masks[n] == e.tag &&& h.masks[n]
  | .any => true

/-- The entry claims a DATA frame (`query` false) or a QUERY frame of tag `t` received on `side` (R13). -/
def Entry.claims (e : Entry) (h : BankHeader) (side : Side) (query : Bool) (t : Tag) : Bool :=
  e.inUse && e.onSide side && (if query then e.query else e.data) && e.matchesTag h t

/-- The match scan: the lowest index whose entry claims the frame (R13). -/
def Bank.winner (b : Bank) (side : Side) (query : Bool) (t : Tag) : Option (Fin 64) :=
  (List.finRange 64).find? fun i => (b.entries[i]).claims b.header side query t

/-- The hit of a winner counted (R14). -/
def State.hit (i : Fin 64) (s : State) : State :=
  { s with banks := { s.banks with hits := s.banks.hits.set i (bump s.banks.hits[i]) } }

/-! ## What a forwarded frame leaves with (R6, R7, R25) -/

/-- The class after the entry's class setting (R7). -/
def Entry.classOf (e : Entry) (c : FClass) : FClass := e.setClass.getD c

/-- The tag a frame leaves with (R6). -/
def Entry.tagOf (e : Entry) (t : Tag) : Tag :=
  if e.action = .rewrite then
    if e.keepItem then e.rewriteTag.extractLsb' 14 6 ++ t.extractLsb' 0 14 else e.rewriteTag
  else t

/-- The body with another tag; MGMT frames have none. -/
def Body.withTag (b : Body) (t : Tag) : Body :=
  match b with
  | .data r _ => .data r t
  | .query r _ => .query r t
  | .mgmt r dst src => .mgmt r dst src
  | .unknown => .unknown

/-- The winning entry's class setting and rewrite applied to a frame of tag `t` (R25). -/
def Entry.applyTo (e : Entry) (t : Tag) (f : Frame) : Frame :=
  { f with body := f.body.withTag (e.tagOf t), cls := e.classOf f.cls }

/-! ## Drops, hop test and hand-off (R24, R26, R31, R32) -/

/-- A frame dropped as *isolated* at the classifier (R17, R20). -/
def State.dropIsolated (side : Side) (s : State) : State :=
  s.countClassifier side fun c => { c with isolated := bump c.isolated }

/-- A frame dropped as *malformed* (R16). -/
def State.dropMalformed (side : Side) (s : State) : State :=
  s.countClassifier side fun c => { c with malformed := bump c.malformed }

/-- The hop test and the hand-off to admission on the far side (R24, R26); the answer is absent when the frame was
dropped as *hop-expired*. -/
def State.forward (side : Side) (f : Frame) (s : State) : State × Option Admission :=
  if f.hop = 0 then
    ((s.countClassifier side fun c => { c with hopExpired := bump c.hopExpired }).setFlag .hopExpired, none)
  else
    match (s.countClassifier side fun c => { c with forwarded := bump c.forwarded }).admitFrame side.far
        { f with hop := f.hop - 1 } with
    | (s1, result) => (s1, some result)

/-- A frame no entry matches (R11, R19). -/
def State.defaultAction (side : Side) (f : Frame) (s : State) : State :=
  let s1 := s.countClassifier side fun c => { c with unmatched := bump c.unmatched }
  match s.banks.active.header.defaults.get side with
  | .pass => (s1.forward side f).1
  | .drop => s1.countClassifier side fun c => { c with default := bump c.default }

/-! ## DATA frames (Table 1-5) -/

/-- Step 7 is made for an entry with action PROXY or a change filter (R22). -/
def Entry.filtersData (e : Entry) : Bool := e.action = .proxy || e.filter ≠ .none

/-- Step 7, and steps 9 to 11 for a frame that passes it (R22, R24 to R26, R62). -/
def State.dataOnward (side : Side) (tag : Tag) (settled : Bool) (f : Frame) (e : Entry) (s : State) : State :=
  if e.filtersData then
    match s.tagStep side tag settled f.payload e with
    | (s1, .pass) => (s1.forward side (e.applyTo tag f)).1
    | (s1, .repeated) => s1.countClassifier side fun c => { c with repeated := bump c.repeated }
    | (s1, .unsettled) => s1.countClassifier side fun c => { c with unsettled := bump c.unsettled }
  else (s.forward side (e.applyTo tag f)).1

/-- Step 5: the offer to the trip unit, true for *completed* (R20). -/
def State.tripStep (side : Side) (tag : Tag) (f : Frame) (e : Entry) (s : State) : State × Bool :=
  match e.trip with
  | some k => s.offerTrip k side tag f.payload
  | none => (s, false)

/-- Steps 5 to 11 of a DATA frame under its winning entry (R20 to R26). -/
def State.dataUnder (side : Side) (tag : Tag) (settled : Bool) (f : Frame) (e : Entry) (s : State) : State :=
  match s.tripStep side tag f e with
  | (s1, true) => s1.dropIsolated side
  | (s1, false) =>
    if e.action = .drop then s1.countClassifier side fun c => { c with table := bump c.table }
    else s1.dataOnward side tag settled f e

/-- Step 4 (R19): the match and the hit, then the frame goes on under the winner or under the default action. -/
def State.matchData (side : Side) (tag : Tag) (settled : Bool) (f : Frame) (s : State) : State :=
  match s.banks.active.winner side false tag with
  | some i => (s.hit i).dataUnder side tag settled f s.banks.active.entries[i]
  | none => s.defaultAction side f

/-- A DATA frame taken by the classifier (R15 to R26). -/
def State.classifyData (side : Side) (reply : Bool) (tag : Tag) (f : Frame) (s : State) : State :=
  let s1 := s.countClassifier side fun c => { c with dataTaken := bump c.dataTaken }
  if s.trip.state = .tripped then s1.dropIsolated side
  else (if reply then s1.settleReply side tag else s1).matchData side tag (reply && s.settles side tag) f

/-! ## QUERY frames (Table 1-5) -/

/-- Steps 9 to 11 of a tracked query, and the result of admission returned to the proxy (R23, R60). -/
def State.forwardTracked (side : Side) (tag : Tag) (f : Frame) (s : State) : State :=
  match s.forward side f with
  | (s1, some (.refused _)) => s1.withdrawQuery side tag
  | (s1, _) => s1

/-- Steps 6 to 11 of a QUERY frame under its winning entry (R21, R23 to R26). -/
def State.queryUnder (side : Side) (tag : Tag) (f : Frame) (e : Entry) (s : State) : State :=
  match e.action with
  | .drop => s.countClassifier side fun c => { c with table := bump c.table }
  | .pass | .rewrite => (s.forward side (e.applyTo tag f)).1
  | .proxy =>
    match s.proxyStep side tag f.hop (e.classOf f.cls) with
    | (s1, .answered) => s1
    | (s1, .coalesced) => s1
    | (s1, .tracked) => s1.forwardTracked side tag (e.applyTo tag f)
    | (s1, .untracked) => (s1.forward side (e.applyTo tag f)).1

/-- Step 4 for a QUERY frame (R19). -/
def State.matchQuery (side : Side) (tag : Tag) (f : Frame) (s : State) : State :=
  match s.banks.active.winner side true tag with
  | some i => (s.hit i).queryUnder side tag f s.banks.active.entries[i]
  | none => s.defaultAction side f

/-- A QUERY frame taken by the classifier: a payload or the Reply flag makes it malformed, before the trip gate (R16,
R17). -/
def State.classifyQuery (side : Side) (reply : Bool) (tag : Tag) (f : Frame) (s : State) : State :=
  let s1 := s.countClassifier side fun c => { c with queryTaken := bump c.queryTaken }
  if reply ∨ f.payload ≠ [] then s1.dropMalformed side
  else if s.trip.state = .tripped then s1.dropIsolated side
  else s1.matchQuery side tag f

/-! ## MGMT frames (R27 to R30) -/

/-- The addresses of a MGMT frame that the classifier drops (R27). -/
def badAddresses (own dst src : Station) : Bool :=
  src == stationBroadcast || src == stationNone || src == own || dst == stationNone

/-- Forwarding of a MGMT frame by the management-pass setting and the hop test (R30). -/
def State.forwardMgmt (side : Side) (f : Frame) (s : State) : State :=
  match s.banks.active.header.mgmtPass with
  | .drop => s.countClassifier side fun c => { c with management := bump c.management }
  | .pass => (s.forward side f).1

/-- A MGMT frame taken by the classifier: `agent` is what the management agent does with it when it is handed to the
agent (R27 to R30). -/
def State.classifyMgmt (side : Side) (f : Frame) (dst src : Station) (agent : State → State) (s : State) : State :=
  if badAddresses s.agent.params.ownStation dst src then
    s.countClassifier side fun c => { c with badAddress := bump c.badAddress }
  else
    let s1 := s.countClassifier side fun c => { c with mgmtTaken := bump c.mgmtTaken }
    if dst = s.agent.params.ownStation then agent s1
    else if dst = stationBroadcast then (agent s1).forwardMgmt side f
    else s1.forwardMgmt side f

/-! ## The port before the classifier (R96 to R98) -/

/-- Whether the port answers in the acknowledgement slot of the reception that ends. -/
def State.acknowledge (side : Side) (yes : Bool) (s : State) : State :=
  s.onPort side fun p => { p with acknowledged := yes }

/-- A reception that ends while the side is OFF (R98). -/
def State.receiveOff (side : Side) (s : State) : State :=
  (s.acknowledge side false).countPort side fun c => { c with receivedWhileOff := bump c.receivedWhileOff }

/-- A bad frame (R97). -/
def State.receiveBad (side : Side) (s : State) : State :=
  ((s.acknowledge side false).countPort side fun c => { c with badFrame := bump c.badFrame }).setFlag (.badFrame side)

/-- The frame that was in progress when STARTING ended is over: it is not received, so the port does not answer and
counts nothing, and the receiver begins with the next frame (R114; log entry 22, DEDUCED). -/
def State.passOver (side : Side) (s : State) : State :=
  (s.acknowledge side false).onPort side fun p => { p with awaitsStart := false }

/-- A frame and its acknowledgement slot end on the line of a port: passed over, discarded while the side is OFF (R98),
else received as `take` says (R114). -/
def State.endOfFrame (side : Side) (take : State → State) (s : State) : State :=
  if (s.ports.get side).awaitsStart then s.passOver side
  else if (s.ports.get side).state = .off then s.receiveOff side
  else take s

/-- A good frame: acknowledged, counted and handed on (R96). -/
def State.receiveGood (side : Side) (classify : State → State) (s : State) : State :=
  classify ((s.acknowledge side true).countPort side fun c => { c with receivedGood := bump c.receivedGood })

/-- A good MGMT frame `m` that carries `payload`, addressed to the coupler or (`toAll`) broadcast, arrives: the port
(R96, R98, R114), the classifier (R27 to R30) and the agent. -/
def State.arrive (m : Arrival) (toAll : Bool) (payload : Payload) (agent : State → State) (s : State) : State :=
  let dst := if toAll then stationBroadcast else s.agent.params.ownStation
  s.endOfFrame m.side fun s =>
    s.receiveGood m.side (State.classifyMgmt m.side (arrivalFrame m dst payload) dst m.source agent)

/-- The event of a command row: the arrival of its frame, when the bus can carry it. -/
def arrival (fits : Bool) (m : Arrival) (toAll : Bool) (payload : Payload) (agent : State → State) (s : State) :
    Host.Outcome State Fault Refusal :=
  if fits then .next (s.event (State.arrive m toAll payload agent)) else .fault .illFormed

end Sys2Proof.Machine
end

