-- ==== Sys2Proof/Machine/Agent.lean ====
section
/-! DEFINITION. The management agent's handling of every command (spec/08_management_agent_and_sessions.md, 8.1 to
8.3): the order of decision, the session, duplicates, the cached response and the response, with the steps
LEASE_DEADLINE, UNKNOWN_COMMAND, BAD_MESSAGE and IGNORED_MESSAGE, and the abort of a table transfer (R171). -/

namespace Sys2Proof.Machine

/-- What a command's own rule answers: a status and the response arguments. -/
structure Reply where
  status : Status
  args   : Payload
  deriving DecidableEq, Repr

/-- OK with arguments. -/
def okReply (args : Payload) : Reply := ⟨.ok, args⟩

/-- A status with no arguments. -/
def bareReply (status : Status) : Reply := ⟨status, []⟩

/-- A command as the agent decides it after step 2 of Table 8-1: its code, whether it is owner-only, its rule, and what
a station that is not the owner is answered. `settleFirst` says whether the reports its effect makes are sent before
its response is composed (log entry 7, DEDUCED). -/
structure Command where
  code        : Byte
  ownerOnly   : Bool
  settleFirst : Bool
  refuse      : State → State × Reply
  run         : State → State × Reply

/-- An open command (R153). -/
def openCommand (code : Byte) (run : State → State × Reply) : Command where
  code := code
  ownerOnly := false
  settleFirst := true
  refuse := fun s => (s, bareReply .refusedNotOwner)
  run := run

/-- An owner-only command (R153). -/
def ownerCommand (code : Byte) (run : State → State × Reply) : Command where
  code := code
  ownerOnly := true
  settleFirst := true
  refuse := fun s => (s, bareReply .refusedNotOwner)
  run := run

/-- A command without arguments: any other length is BAD_ARGUMENT before everything else its rule decides (R154,
R194; log entry 8, DEDUCED). -/
def noArguments (args : Payload) (run : State → State × Reply) (s : State) : State × Reply :=
  if args = [] then run s else (s, bareReply .badArgument)

/-- A station is the session owner. -/
def State.ownedBy (src : Station) (s : State) : Bool :=
  match s.agent.session with
  | some x => x.owner == src
  | none => false

/-- The lease renewed by an owner command that arrived on `side` (R149). -/
def Session.renew (now : CTime) (side : Side) (x : Session) : Session :=
  { x with deadline := now + Config.leaseUnit * x.lease.setWidth 32, side := side }

/-- The lease renewed and the response cached after an owner command (R149, R152); nothing when the sender is not the
owner after the command, as after CLOSE. -/
def State.keepResponse (m : Arrival) (r : Response) (s : State) : State :=
  match s.agent.session with
  | some x =>
    if x.owner = m.source then s.withSession (some { x.renew s.now m.side with lastSeq := r.seq, cached := r }) else s
  | none => s

/-- The frame of a response, with the parameters as they stand (R145). -/
def responseFrame (p : Params) (dst : Station) (r : Response) : Frame where
  body := .mgmt false dst p.ownStation
  cls := p.mgmtClass
  hop := p.originHop
  payload := r.payload

/-- A response composed and admitted toward the side of its command; a refused one is counted (R145). -/
def State.respond (m : Arrival) (r : Response) (s : State) : State :=
  match s.admitFrame m.side (responseFrame s.agent.params m.source r) with
  | (s1, .queued) => s1
  | (s1, .refused _) => s1.countAgent fun c => { c with responseLost := bump c.responseLost }

/-- The cached response a command duplicates: its source is the owner and its sequence number the last (R144 step 1,
R152). -/
def State.duplicateOf (m : Arrival) (seq : Byte) (s : State) : Option Response :=
  match s.agent.session with
  | some x => if x.owner = m.source ∧ x.lastSeq = seq then some x.cached else none
  | none => none

/-- A duplicate answered from the cache: the lease is renewed and nothing is executed (R152). -/
def State.answerDuplicate (m : Arrival) (r : Response) (s : State) : State :=
  let s1 := s.withSession (s.agent.session.map (Session.renew s.now m.side))
  (s1.countAgent fun c => { c with duplicates := bump c.duplicates }).respond m r

/-- The end of a command: cached for the owner, its reports settled, its response sent. -/
def State.finish (settleFirst : Bool) (m : Arrival) (r : Response) (s : State) : State :=
  let s1 := s.keepResponse m r
  (if settleFirst then s1.settle else s1).respond m r

/-- A command counted (Table 8-8). -/
def State.countCommand (s : State) : State := s.countAgent fun c => { c with commands := bump c.commands }

/-- Steps 3 and 4 of Table 8-1 for a command that is no duplicate. -/
def State.decideCommand (m : Arrival) (c : Command) (s : State) : State × Reply :=
  if c.ownerOnly && !s.ownedBy m.source then
    c.refuse (s.countAgent fun n => { n with refusedNotOwner := bump n.refusedNotOwner })
  else c.run s

/-- A COMMAND addressed to the coupler (R144). -/
def State.take (m : Arrival) (seq : Byte) (c : Command) (s : State) : State :=
  match s.duplicateOf m seq with
  | some r => s.countCommand.answerDuplicate m r
  | none =>
    match s.countCommand.decideCommand m c with
    | (s1, reply) => s1.finish c.settleFirst m ⟨seq, c.code, reply.status, reply.args⟩

/-- A broadcast COMMAND: never tested as a duplicate, never cached, and renews no lease (R143). -/
def State.takeBroadcast (m : Arrival) (seq : Byte) (c : Command) (s : State) : State :=
  match c.run s.countCommand with
  | (s1, reply) => s1.settle.respond m ⟨seq, c.code, reply.status, reply.args⟩

/-- The event of a row that is an addressed command. -/
def addressed (m : Arrival) (seq : Byte) (args : Payload) (c : Command) (s : State) :
    Host.Outcome State Fault Refusal :=
  arrival (argsFit args) m false (commandPayload seq c.code args) (State.take m seq c) s

/-! ## Table transfer abort and the end of the session (R150, R151, R171) -/

/-- An open transfer aborted: the shadow state becomes INCOMPLETE, the transfer state goes and LOAD_ABORTED is set
(R171). In any other shadow state nothing is done. -/
def State.abortTransfer (s : State) : State :=
  match s.banks.shadowState with
  | .loading _ => (s.withShadowState .incomplete).setFlag .loadAborted
  | .clean | .incomplete => s

/-- The session ended, an open transfer aborted first (R150 steps 1 and 2). -/
def State.endSession (s : State) : State := s.abortTransfer.withSession none

/-- The lease deadline, when it has been reached (R151). -/
def State.expireLease (s : State) : State :=
  match s.agent.session with
  | some x =>
    if reached s.now x.deadline then
      (s.endSession.countAgent fun c => { c with leaseExpiries := bump c.leaseExpiries }).setFlag .leaseExpired
    else s
  | none => s

/-- LEASE_DEADLINE (R151). -/
def execLeaseDeadline (s : State) : Host.Outcome State Fault Refusal := .next (s.event State.expireLease)

/-! ## Messages that are no command (R143, R144) -/

/-- A code that names no command (R144 step 2). -/
def unknownCode (code : Byte) : Command :=
  openCommand code fun s =>
    (s.countAgent fun c => { c with unknownCommand := bump c.unknownCommand }, bareReply .unknownCommand)

/-- UNKNOWN_COMMAND (R144). -/
def execUnknownCommand (m : Arrival) (seq code : Byte) (args : Payload) (s : State) :
    Host.Outcome State Fault Refusal :=
  arrival (argsFit args && !knownCode code) m false (commandPayload seq code args)
    (State.take m seq (unknownCode code)) s

/-- A message discarded as *bad-message*. -/
def State.countBadMessage (s : State) : State := s.countAgent fun c => { c with badMessage := bump c.badMessage }

/-- A message discarded as *ignored-message*. -/
def State.countIgnoredMessage (s : State) : State :=
  s.countAgent fun c => { c with ignoredMessage := bump c.ignoredMessage }

/-- BAD_MESSAGE (R143). -/
def execBadMessage (m : Arrival) (toAll : Bool) (payload : Payload) (s : State) : Host.Outcome State Fault Refusal :=
  arrival (decide (payload.length ≤ Config.payload) && badHeader payload) m toAll payload State.countBadMessage s

/-- IGNORED_MESSAGE (R143). -/
def execIgnoredMessage (m : Arrival) (toAll : Bool) (payload : Payload) (s : State) :
    Host.Outcome State Fault Refusal :=
  arrival (decide (payload.length ≤ Config.payload) && ignorable toAll payload) m toAll payload
    State.countIgnoredMessage s

end Sys2Proof.Machine
end

