-- ==== Sys2Proof/Machine/AgentCommands.lean ====
section
/-! DEFINITION. The agent's own commands (spec/08_management_agent_and_sessions.md, 8.2 and 8.5 to 8.8): IDENTIFY, OPEN,
CLOSE, READ_STATUS, READ_COUNTERS, CLEAR_COUNTERS, READ_CONFIG, SET_CONFIG and RESTART. -/

namespace Sys2Proof.Machine

/-! ## IDENTIFY (R157, Table 12-12) -/

/-- The session owner, or station 4095 for none (Table 12-9). -/
def ownerStation (x : Option Session) : Station :=
  match x with
  | some y => y.owner
  | none => stationNone

/-- The start byte: FAILMODE level read, factory state, image slot loaded, session owner present (Table 12-12). Bits 7
to 4 stand for nothing and are 0: log entry 23, DESIGN CHOICE. -/
def State.startByte (s : State) : Byte :=
  0#4 ++ BitVec.ofBool s.agent.session.isSome ++ BitVec.ofBool (s.image.loaded == some .one) ++
    BitVec.ofBool s.image.loaded.isNone ++ BitVec.ofBool s.image.failmodeHigh

/-- The arguments of an IDENTIFY response. -/
def State.identity (s : State) : Payload :=
  be16 Config.partCode ++ [Config.revision] ++ stationBytes s.agent.params.ownStation ++
    [s.image.strap.setWidth 8, s.startByte] ++ stationBytes (ownerStation s.agent.session) ++ be32 s.now

/-- IDENTIFY as a command. -/
def identifyCommand (args : Payload) : Command :=
  openCommand 0x01 (noArguments args fun s => (s, okReply s.identity))

/-- IDENTIFY (R143, R157). -/
def execIdentify (m : Arrival) (toAll : Bool) (seq : Byte) (args : Payload) (s : State) :
    Host.Outcome State Fault Refusal :=
  arrival (argsFit args) m toAll (commandPayload seq 0x01 args)
    (if toAll then State.takeBroadcast m seq (identifyCommand args) else State.take m seq (identifyCommand args)) s

/-! ## OPEN and CLOSE (R148, R150) -/

/-- OPEN with a lease length of 1 to 255 (R148). -/
def runOpen (m : Arrival) (seq lease : Byte) (s : State) : State × Reply :=
  let args := stationBytes m.source ++ [lease]
  match s.agent.session with
  | none =>
    let x : Session :=
      { owner := m.source
        lease := lease
        deadline := s.now + Config.leaseUnit * lease.setWidth 32
        side := m.side
        lastSeq := seq
        cached := ⟨seq, 0x02, .ok, args⟩ }
    ((s.withSession (some x)).countAgent fun c => { c with sessionsOpened := bump c.sessionsOpened }, okReply args)
  | some x =>
    if x.owner = m.source then (s.withSession (some { x with lease := lease }), okReply args)
    else
      (s.countAgent fun c => { c with openRefused := bump c.openRefused },
        ⟨.refusedOwned, stationBytes x.owner ++ [x.side.code]⟩)

/-- OPEN as a command. -/
def openSessionCommand (m : Arrival) (seq : Byte) (args : Payload) : Command :=
  openCommand 0x02 fun s =>
    match args with
    | [lease] => if lease = 0 then (s, bareReply .badArgument) else runOpen m seq lease s
    | _ => (s, bareReply .badArgument)

/-- OPEN (R148). -/
def execOpen (m : Arrival) (seq : Byte) (args : Payload) (s : State) : Host.Outcome State Fault Refusal :=
  addressed m seq args (openSessionCommand m seq args) s

/-- CLOSE from the owner (R150). -/
def runClose (s : State) : State × Reply :=
  (s.endSession.countAgent fun c => { c with closes := bump c.closes }, okReply [])

/-- CLOSE as a command. -/
def closeCommand (args : Payload) : Command := ownerCommand 0x03 (noArguments args runClose)

/-- CLOSE (R150). -/
def execClose (m : Arrival) (seq : Byte) (args : Payload) (s : State) : Host.Outcome State Fault Refusal :=
  addressed m seq args (closeCommand args) s

/-! ## READ_STATUS (R94, R117, R142, R158, Table 12-12) -/

/-- The session as a READ_STATUS from `m` shows it (log entry 3, DESIGN CHOICE). -/
def State.shownSession (m : Arrival) (s : State) : Option Session :=
  if Config.statusShowsRenewal && s.ownedBy m.source then s.agent.session.map (Session.renew s.now m.side)
  else s.agent.session

/-- A byte of presence bits, bit 0 first and bit 1 second (Table 12-12). Bits 7 to 2 stand for nothing and are 0: log
entry 23, DESIGN CHOICE. -/
def presenceByte (bit0 bit1 : Bool) : Byte := 0#6 ++ BitVec.ofBool bit1 ++ BitVec.ofBool bit0

/-- The raised groups, bit k for group k of Table 12-7. Bits 7 to 4 stand for no group and are 0: log entry 23, DESIGN
CHOICE. -/
def Events.raisedByte (ev : Events) : Byte :=
  0#4 ++ BitVec.ofBool (ev.raised .guard) ++ BitVec.ofBool (ev.raised .traffic) ++
    BitVec.ofBool (ev.raised .table) ++ BitVec.ofBool (ev.raised .port)

/-- Section GENERAL. -/
def State.statusGeneral (m : Arrival) (s : State) : Payload :=
  let x := s.shownSession m
  be32 s.now ++
    [presenceByte x.isSome x.isSome, s.banks.shadowState.code, boolByte s.image.store.isSome] ++
    stationBytes (ownerStation x) ++ deadlineBytes (x.map (·.deadline)) ++
    [match x with
      | some y => y.side.code
      | none => 0xFF,
      countByte s.queues.free, s.trip.state.code, boolByte s.trip.isol, s.events.raisedByte]

/-- Sections SIDE A and SIDE B. -/
def State.statusSide (side : Side) (s : State) : Payload :=
  let p := s.ports.get side
  let q := s.queues.frames.get side
  let x := onLineFrame q
  be32 s.now ++ [presenceByte p.recovery.isSome x.isSome, p.state.code, countByte p.score] ++
    deadlineBytes p.recovery ++ [countByte q.length] ++
    match x with
    | some y => [y.frame.cls.setWidth 8, countByte y.attempts, y.mark.code]
    | none => [0, 0, 0]

/-- Section TRIP. Bits 7 to 4 of the asserted set stand for no source and are 0: log entry 23, DESIGN CHOICE. -/
def State.statusTrip (s : State) : Payload :=
  be32 s.now ++
    [presenceByte s.trip.deadline.isSome s.trip.last.isSome, s.trip.state.code, s.trip.asserted.setWidth 8] ++
    deadlineBytes s.trip.deadline ++
    match s.trip.last with
    | some r => be32 r.time ++ [countByte r.source.val, r.side.code] ++ tagBytes r.tag
    | none => be32 0 ++ [0, 0] ++ tagBytes 0

/-- READ_STATUS as a command. -/
def statusCommand (m : Arrival) (args : Payload) : Command :=
  openCommand 0x04 fun s =>
    match args with
    | [section_] =>
      if section_ = 0 then (s, okReply (s.statusGeneral m))
      else if section_ = 1 then (s, okReply (s.statusSide .a))
      else if section_ = 2 then (s, okReply (s.statusSide .b))
      else if section_ = 3 then (s, okReply s.statusTrip)
      else (s, bareReply .badArgument)
    | _ => (s, bareReply .badArgument)

/-- READ_STATUS (R158). -/
def execReadStatus (m : Arrival) (seq : Byte) (args : Payload) (s : State) : Host.Outcome State Fault Refusal :=
  addressed m seq args (statusCommand m args) s

/-! ## READ_COUNTERS and CLEAR_COUNTERS (R159) -/

/-- The counters of a set, in its table's order (Tables 8-7 and 12-11). -/
def State.counterSet (s : State) (code : Byte) : Option (List Counter) :=
  match code.toNat with
  | 0 => some s.banks.classifier.a.list
  | 1 => some s.banks.classifier.b.list
  | 2 => some s.tags.counters.list
  | 3 => some s.proxy.counters.a.list
  | 4 => some s.proxy.counters.b.list
  | 5 => some s.queues.counters.a.list
  | 6 => some s.queues.counters.b.list
  | 7 => some s.ports.a.counters.list
  | 8 => some s.ports.b.counters.list
  | 9 => some s.banks.counters.list
  | 10 => some s.trip.counters.list
  | 11 => some s.agent.counters.list
  | 12 => some s.events.counters.list
  | _ => none

/-- READ_COUNTERS as a command. -/
def readCountersCommand (args : Payload) : Command :=
  openCommand 0x05 fun s =>
    match args with
    | [set, first] =>
      match s.counterSet set with
      | some cs =>
        if first.toNat < cs.length then (s, okReply ([set, first] ++ ((cs.drop first.toNat).take 4).flatMap be32))
        else (s, bareReply .badArgument)
      | none => (s, bareReply .badArgument)
    | _ => (s, bareReply .badArgument)

/-- READ_COUNTERS (R159). -/
def execReadCounters (m : Arrival) (seq : Byte) (args : Payload) (s : State) : Host.Outcome State Fault Refusal :=
  addressed m seq args (readCountersCommand args) s

/-- Every counter of a set becomes 0; a code that names no set changes nothing. -/
def State.clearSet (code : Nat) (s : State) : State :=
  match code with
  | 0 => s.countClassifier .a fun _ => ClassifierCounters.zero
  | 1 => s.countClassifier .b fun _ => ClassifierCounters.zero
  | 2 => s.countTag fun _ => TagCounters.zero
  | 3 => s.countProxy .a fun _ => ProxyCounters.zero
  | 4 => s.countProxy .b fun _ => ProxyCounters.zero
  | 5 => s.countQueue .a fun _ => QueueCounters.zero
  | 6 => s.countQueue .b fun _ => QueueCounters.zero
  | 7 => s.countPort .a fun _ => PortCounters.zero
  | 8 => s.countPort .b fun _ => PortCounters.zero
  | 9 => s.countBank fun _ => BankCounters.zero
  | 10 => s.countTrip fun _ => TripCounters.zero
  | 11 => s.countAgent fun _ => AgentCounters.zero
  | 12 => s.countEvents fun _ => EventCounters.zero
  | _ => s

/-- Every counter of every set becomes 0. -/
def State.clearAllSets (s : State) : State := (List.range 13).foldl (fun s i => s.clearSet i) s

/-- CLEAR_COUNTERS as a command. -/
def clearCountersCommand (args : Payload) : Command :=
  ownerCommand 0x06 fun s =>
    match args with
    | [set] =>
      if set = 0xFF then (s.clearAllSets, okReply [])
      else if set.toNat < 13 then (s.clearSet set.toNat, okReply [])
      else (s, bareReply .badArgument)
    | _ => (s, bareReply .badArgument)

/-- CLEAR_COUNTERS (R159). -/
def execClearCounters (m : Arrival) (seq : Byte) (args : Payload) (s : State) : Host.Outcome State Fault Refusal :=
  addressed m seq args (clearCountersCommand args) s

/-! ## READ_CONFIG and SET_CONFIG (R84, R155, R156) -/

/-- READ_CONFIG as a command. -/
def readConfigCommand (args : Payload) : Command :=
  openCommand 0x15 fun s =>
    match args with
    | [item] =>
      if item = 0xFF then
        match s.takeFree 8 with
        | (s1, free) => (s1, okReply (0xFF :: s.trip.config.bytes free))
      else
        match ParamId.ofCode item with
        | some i => (s, okReply (item :: be16 (s.agent.params.value i)))
        | none => (s, bareReply .badArgument)
    | _ => (s, bareReply .badArgument)

/-- READ_CONFIG (R155). -/
def execReadConfig (m : Arrival) (seq : Byte) (args : Payload) (s : State) : Host.Outcome State Fault Refusal :=
  addressed m seq args (readConfigCommand args) s

/-- A queued frame's age deadline re-read under a new limit of its class (R84). -/
def QFrame.reread (p : Params) (c : FClass) (x : QFrame) : QFrame :=
  if x.frame.cls = c then { x with ageDeadline := p.ageDeadline x.queueTime c } else x

/-- A queued frame of class `c` whose age has reached a new nonzero limit (R84). -/
def QFrame.overAge (p : Params) (now : CTime) (c : FClass) (x : QFrame) : Bool :=
  decide (x.frame.cls = c) && decide (p.ageLimit c ≠ 0) && decide ((p.ageLimit c).setWidth 32 ≤ now - x.queueTime)

/-- One queue's frames of class `c` re-read and the expired ones dealt with by R83, `n` the frames still to look at
from the back. -/
def State.expireOverAge (side : Side) (c : FClass) : Nat → State → State
  | 0, s => s
  | n + 1, s =>
    let s1 :=
      match (s.queues.frames.get side)[n]? with
      | some x => if x.overAge s.agent.params s.now c then s.expire side n else s
      | none => s
    s1.expireOverAge side c n

/-- The re-reading that a change of AGE_LIMIT_c makes in one queue (R84). -/
def State.rereadAge (side : Side) (c : FClass) (s : State) : State :=
  let s1 := s.onQueue side (·.map (QFrame.reread s.agent.params c))
  s1.expireOverAge side c (s1.queues.frames.get side).length

/-- The effect of a SET_CONFIG that is taken (R84, R156). -/
def State.configure (i : ParamId) (v : BitVec 16) (s : State) : State :=
  let s1 := s.withParams (s.agent.params.withValue i v)
  match i with
  | .ageLimit c => (s1.rereadAge .a c).rereadAge .b c
  | _ => s1

/-- The state refusals of SET_CONFIG (R156 steps 3 and 4). -/
def State.refusesConfig (i : ParamId) (v : BitVec 16) (s : State) : Bool :=
  match i with
  | .ceiling side => decide (v.toNat < (s.queues.frames.get side).length)
  | .ownStation =>
    match s.agent.session with
    | some x => x.owner == v.setWidth 12
    | none => false
  | _ => false

/-- SET_CONFIG as a command. -/
def setConfigCommand (args : Payload) : Command :=
  ownerCommand 0x14 fun s =>
    match args with
    | [item, vh, vl] =>
      match ParamId.ofCode item with
      | none => (s, bareReply .badArgument)
      | some i =>
        if !i.admits (vh ++ vl) then (s, bareReply .badArgument)
        else if s.refusesConfig i (vh ++ vl) then (s, bareReply .badState)
        else (s.configure i (vh ++ vl), okReply [item, vh, vl])
    | _ => (s, bareReply .badArgument)

/-- SET_CONFIG (R156). -/
def execSetConfig (m : Arrival) (seq : Byte) (args : Payload) (s : State) : Host.Outcome State Fault Refusal :=
  addressed m seq args (setConfigCommand args) s

/-! ## RESTART (R34, R66, R92, R113, R161, R184) -/

/-- A port after RESTART, its attempt already aborted (R113). -/
def Port.restarted (p : Port) : Port :=
  { p with
    state := if p.state = .off then .off else .active
    score := 0
    recovery := none }

/-- One side's queue purged and its port restarted (R92, R113). -/
def State.restartSide (side : Side) (s : State) : State :=
  ((s.abortAttempt side).purge side fun n c => { c with purgedRestart := satAdd c.purgedRestart n }).onPort side
    Port.restarted

/-- The outstanding report's retry interval started again (R184). -/
def Report.restarted (now : CTime) (r : Report) : Report :=
  if r.outstanding then { r with retry := some (now + Config.reportRetry) } else r

/-- Table 8-9. -/
def State.restartAll (s : State) : State :=
  let s1 := (s.restartSide .a).restartSide .b
  let s2 :=
    { s1 with
      tags := { s1.tags with records := Vector.replicate 48 none }
      proxy := { s1.proxy with list := [] } }
  (s2.withReports (s2.events.reports.map (Report.restarted s2.now))).abortTransfer

/-- RESTART from the owner (R161). -/
def runRestart (s : State) : State × Reply :=
  match s.image.store with
  | some _ => (s, bareReply .busy)
  | none => (s.restartAll, okReply [])

/-- RESTART as a command: its response meets admission on the emptied queue, before any report its effect makes. -/
def restartCommand (args : Payload) : Command :=
  { ownerCommand 0x1C (noArguments args runRestart) with settleFirst := false }

/-- RESTART (R161). -/
def execRestart (m : Arrival) (seq : Byte) (args : Payload) (s : State) : Host.Outcome State Fault Refusal :=
  addressed m seq args (restartCommand args) s

end Sys2Proof.Machine
end

