-- ==== Sys2Proof/Machine/BankCommands.lean ====
section
/-! DEFINITION. The commands on the banks (spec/06_bank_commit_and_validation.md): READ_ENTRY, WRITE_ENTRY,
WRITE_MASKS_DEFAULTS, COPY_ACTIVE and COMMIT, with validation and the swap. -/

namespace Sys2Proof.Machine

/-- The refusal that a shadow state other than CLEAN gives an edit or a COMMIT (Table 6-2). -/
def ShadowState.refusesEdit : ShadowState → Option Status
  | .clean => none
  | .loading _ => some .busy
  | .incomplete => some .badState

/-- A command that is taken in shadow state CLEAN alone (Table 6-2). -/
def inClean (run : State → State × Reply) (s : State) : State × Reply :=
  match s.banks.shadowState.refusesEdit with
  | some status => (s, bareReply status)
  | none => run s

/-! ## READ_ENTRY (R123) -/

/-- The bank a code names: 0 ACTIVE, 1 SHADOW. -/
def Banks.ofCode (b : Banks) (code : Byte) : Option Bank :=
  if code = 0 then some b.active else if code = 1 then some b.shadow else none

/-- The hit count that follows an entry of the active bank (R14, R123). -/
def State.hitBytes (code : Byte) (i : Fin 64) (s : State) : Payload :=
  if code = 0 then be32 s.banks.hits[i] else []

/-- READ_ENTRY as a command. -/
def readEntryCommand (args : Payload) : Command :=
  openCommand 0x07 fun s =>
    match args with
    | [code, index] =>
      match s.banks.ofCode code with
      | none => (s, bareReply .badArgument)
      | some bank =>
        let head := [s.banks.shadowState.code, code, index]
        if index = 0xFF then (s, okReply (head ++ bank.header.bytes))
        else
          match entryIndex index with
          | some i => (s, okReply (head ++ (bank.entries[i]).bytes ++ s.hitBytes code i))
          | none => (s, bareReply .badArgument)
    | _ => (s, bareReply .badArgument)

/-- READ_ENTRY (R123). -/
def execReadEntry (m : Arrival) (seq : Byte) (args : Payload) (s : State) : Host.Outcome State Fault Refusal :=
  addressed m seq args (readEntryCommand args) s

/-! ## WRITE_ENTRY, WRITE_MASKS_DEFAULTS, COPY_ACTIVE (R120 to R122) -/

/-- An item written to the shadow bank (R120, R121, R166). -/
def State.applyItem (i : Item) (s : State) : State :=
  { s with banks := { s.banks with shadow := s.banks.shadow.apply i } }

/-- An edit of the shadow bank counted (Table 6-4). -/
def State.writeShadow (i : Item) (s : State) : State :=
  (s.applyItem i).countBank fun c => { c with shadowWrites := bump c.shadowWrites }

/-- WRITE_ENTRY as a command: a wrong length first, then BUSY or BAD_STATE, then the index and the fields. -/
def writeEntryCommand (args : Payload) : Command :=
  ownerCommand 0x08 fun s =>
    match args with
    | index :: body =>
      if body.length ≠ 12 then (s, bareReply .badArgument)
      else
        inClean (fun s =>
          match entryIndex index, Entry.ofBytes body with
          | some i, some e => (s.writeShadow (.entry i e), okReply [index])
          | _, _ => (s, bareReply .badArgument)) s
    | [] => (s, bareReply .badArgument)

/-- WRITE_ENTRY (R120). -/
def execWriteEntry (m : Arrival) (seq : Byte) (args : Payload) (s : State) : Host.Outcome State Fault Refusal :=
  addressed m seq args (writeEntryCommand args) s

/-- WRITE_MASKS_DEFAULTS as a command. -/
def writeMasksDefaultsCommand (args : Payload) : Command :=
  ownerCommand 0x09 fun s =>
    if args.length ≠ 15 then (s, bareReply .badArgument)
    else
      inClean (fun s =>
        match BankHeader.ofBytes args with
        | some h => (s.writeShadow (.header h), okReply [])
        | none => (s, bareReply .badArgument)) s

/-- WRITE_MASKS_DEFAULTS (R121). -/
def execWriteMasksDefaults (m : Arrival) (seq : Byte) (args : Payload) (s : State) :
    Host.Outcome State Fault Refusal :=
  addressed m seq args (writeMasksDefaultsCommand args) s

/-- COPY_ACTIVE from the owner (R122). -/
def runCopyActive (s : State) : State × Reply :=
  match s.banks.shadowState with
  | .loading _ => (s, bareReply .busy)
  | .clean | .incomplete =>
    ({ s with banks := { s.banks with shadow := s.banks.active, shadowState := .clean } }, okReply [])

/-- COPY_ACTIVE as a command. -/
def copyActiveCommand (args : Payload) : Command := ownerCommand 0x0A (noArguments args runCopyActive)

/-- COPY_ACTIVE (R122). -/
def execCopyActive (m : Arrival) (seq : Byte) (args : Payload) (s : State) : Host.Outcome State Fault Refusal :=
  addressed m seq args (copyActiveCommand args) s

/-! ## COMMIT (R124 to R128) -/

/-- Validation reasons (Table 6-3). -/
inductive Invalid where
  | noSides
  | noKinds
  | filterWithoutData
  | filterWithDrop
  | zeroWindow
  | zeroFreshness
  | tripUndefined
  | rewriteWithoutTagChange
  deriving DecidableEq, Repr

/-- Reason codes (Table 12-4). -/
def Invalid.code : Invalid → Byte
  | .noSides => 1
  | .noKinds => 2
  | .filterWithoutData => 3
  | .filterWithDrop => 4
  | .zeroWindow => 5
  | .zeroFreshness => 6
  | .tripUndefined => 7
  | .rewriteWithoutTagChange => 8

/-- An entry names a trip source that the trip unit does not define (R126). -/
def Entry.namesUndefined (e : Entry) (c : TripConfig) : Bool :=
  match e.trip with
  | some k => (c.sources[k]).isNone
  | none => false

/-- The first check of Table 6-3 that an entry in use fails. -/
def Entry.fault (e : Entry) (c : TripConfig) : Option Invalid :=
  if !e.onA && !e.onB then some .noSides
  else if !e.data && !e.query then some .noKinds
  else if e.filter ≠ .none ∧ !e.data then some .filterWithoutData
  else if e.filter ≠ .none ∧ e.action = .drop then some .filterWithDrop
  else if e.filter = .repeated ∧ e.window = 0 then some .zeroWindow
  else if e.action = .proxy ∧ e.freshness = 0 then some .zeroFreshness
  else if e.namesUndefined c then some .tripUndefined
  else if e.action = .rewrite ∧ !e.keepItem ∧ e.rewriteTag = e.tag then some .rewriteWithoutTagChange
  else none

/-- The check of an entry that validation makes: none for an entry not in use (R125). -/
def Entry.invalid (e : Entry) (c : TripConfig) : Option Invalid := if e.inUse then e.fault c else none

/-- The first failing entry of a bank and its reason (R125). -/
def Bank.invalid (b : Bank) (c : TripConfig) : Option (Fin 64 × Invalid) :=
  (List.finRange 64).findSome? fun i => ((b.entries[i]).invalid c).map fun why => (i, why)

/-- Entries in use. -/
def Bank.inUse (b : Bank) : Nat := b.entries.toList.countP (·.inUse)

/-- The swap of the banks (R127). -/
def State.swapBanks (s : State) : State :=
  { s with
    banks :=
      { s.banks with
        active := s.banks.shadow
        shadow := s.banks.active
        shadowState := .clean
        hits := Vector.replicate 64 0
        counters := { s.banks.counters with commitDone := bump s.banks.counters.commitDone } } }.setFlag .commitDone

/-- COMMIT from the owner in shadow state CLEAN (R125, R127). -/
def runCommit (s : State) : State × Reply :=
  match s.banks.shadow.invalid s.trip.config with
  | some (i, why) =>
    ((s.countBank fun c => { c with commitRefused := bump c.commitRefused }).setFlag .commitRefused,
      ⟨.invalidTable, [countByte i.val, why.code]⟩)
  | none => (s.swapBanks, okReply [countByte s.banks.shadow.inUse])

/-- COMMIT as a command. -/
def commitCommand (args : Payload) : Command := ownerCommand 0x0B (noArguments args (inClean runCommit))

/-- COMMIT (R124). -/
def execCommit (m : Arrival) (seq : Byte) (args : Payload) (s : State) : Host.Outcome State Fault Refusal :=
  addressed m seq args (commitCommand args) s

end Sys2Proof.Machine
end

