-- ==== Sys2Proof/Machine/TransferCommands.lean ====
section
/-! DEFINITION. The in-band table transfer (spec/09_in_band_table_transfer.md): LOAD_BEGIN, LOAD_PART and LOAD_END,
with the step IDLE_DEADLINE. -/

namespace Sys2Proof.Machine

/-- LOAD_BEGIN with its declared count (R164). -/
def runLoadBegin (count : Byte) (s : State) : State × Reply :=
  match s.banks.shadowState with
  | .loading _ => (s, bareReply .busy)
  | .clean | .incomplete =>
    if count.toNat < 1 ∨ 65 < count.toNat then (s, bareReply .badArgument)
    else
      ({ s with
          banks :=
            { s.banks with
              shadow := Bank.cleared
              shadowState :=
                .loading
                  { declared := count.toNat, expected := 0, sum := 0, idle := s.now + Config.transferIdle } } },
        okReply [count])

/-- LOAD_BEGIN as a command. -/
def loadBeginCommand (args : Payload) : Command :=
  ownerCommand 0x0C fun s =>
    match args with
    | [count] => runLoadBegin count s
    | _ => (s, bareReply .badArgument)

/-- LOAD_BEGIN (R164). -/
def execLoadBegin (m : Arrival) (seq : Byte) (args : Payload) (s : State) : Host.Outcome State Fault Refusal :=
  addressed m seq args (loadBeginCommand args) s

/-- The expected part as a LOAD_PART response carries it: 0 when no transfer is open (R165). -/
def ShadowState.expectedByte : ShadowState → Byte
  | .loading t => countByte t.expected
  | .clean | .incomplete => 0

/-- The part number a LOAD_PART was given. A LOAD_PART without any argument byte gives none, and the byte its response
carries in that place is a free value (log entry 2, DESIGN CHOICE). -/
def State.partNumber (args : Payload) (s : State) : State × Payload :=
  match args with
  | part :: _ => (s, [part])
  | [] => s.takeFree 1

/-- A LOAD_PART refused before Table 9-2: part number given and expected part (R165, Table 12-12). -/
def refuseLoadPart (status : Status) (args : Payload) (s : State) : State × Reply :=
  match s.partNumber args with
  | (s1, part) => (s1, ⟨status, part ++ [s.banks.shadowState.expectedByte]⟩)

/-- The part of a transfer kept: the idle deadline renewed (R166, R167). -/
def State.keepTransfer (t : Transfer) (s : State) : State :=
  s.withShadowState (.loading { t with idle := s.now + Config.transferIdle })

/-- A well-formed item applied (R166). -/
def State.applyPart (t : Transfer) (item : Payload) (i : Item) (s : State) : State :=
  (s.applyItem i).keepTransfer { t with expected := t.expected + 1, sum := t.sum + byteSum item }

/-- LOAD_PART with a part number and an item (Table 9-2). -/
def runLoadPart (part : Byte) (item : Payload) (s : State) : State × Reply :=
  match s.banks.shadowState with
  | .clean | .incomplete => (s, ⟨.badState, [part, 0, s.banks.shadowState.code]⟩)
  | .loading t =>
    if t.declared ≤ part.toNat then (s, ⟨.badArgument, [part, countByte t.expected]⟩)
    else if part.toNat < t.expected then (s.keepTransfer t, okReply [part, countByte t.expected])
    else if t.expected < part.toNat then (s.abortTransfer, ⟨.sequenceGap, [part, countByte t.expected]⟩)
    else
      match Item.ofBytes item with
      | some i => (s.applyPart t item i, okReply [part, countByte (t.expected + 1)])
      | none => (s, ⟨.badArgument, [part, countByte t.expected]⟩)

/-- LOAD_PART as a command. Every response carries the part number and the expected part, a refusal of a station that
is not the owner among them (R165; log entry 9, DEDUCED). -/
def loadPartCommand (args : Payload) : Command where
  code := 0x0D
  ownerOnly := true
  settleFirst := true
  refuse := refuseLoadPart .refusedNotOwner args
  run := fun s =>
    match args with
    | part :: b :: item => runLoadPart part (b :: item) s
    | _ => refuseLoadPart .badArgument args s

/-- LOAD_PART (R165). -/
def execLoadPart (m : Arrival) (seq : Byte) (args : Payload) (s : State) : Host.Outcome State Fault Refusal :=
  addressed m seq args (loadPartCommand args) s

/-- LOAD_END with its checksum (R169). -/
def runLoadEnd (checksum : BitVec 16) (s : State) : State × Reply :=
  match s.banks.shadowState with
  | .clean | .incomplete => (s, bareReply .badState)
  | .loading t =>
    if t.expected < t.declared then
      (s.abortTransfer, ⟨.sequenceGap, [countByte t.declared, countByte t.expected]⟩)
    else if checksum ≠ t.sum then (s.abortTransfer, ⟨.checksumMismatch, be16 t.sum⟩)
    else (s.withShadowState .clean, okReply (countByte t.declared :: be16 t.sum))

/-- LOAD_END as a command. -/
def loadEndCommand (args : Payload) : Command :=
  ownerCommand 0x0E fun s =>
    match args with
    | [h, l] => runLoadEnd (h ++ l) s
    | _ => (s, bareReply .badArgument)

/-- LOAD_END (R169). -/
def execLoadEnd (m : Arrival) (seq : Byte) (args : Payload) (s : State) : Host.Outcome State Fault Refusal :=
  addressed m seq args (loadEndCommand args) s

/-- The idle deadline of an open transfer, when it has been reached (R170). -/
def State.expireTransfer (s : State) : State :=
  match s.banks.shadowState with
  | .loading t => if reached s.now t.idle then s.abortTransfer else s
  | .clean | .incomplete => s

/-- IDLE_DEADLINE (R170). -/
def execIdleDeadline (s : State) : Host.Outcome State Fault Refusal := .next (s.event State.expireTransfer)

end Sys2Proof.Machine
end

