-- ==== Sys2Proof/Machine/RecordCommands.lean ====
section
/-! DEFINITION. The commands on records, outstanding queries and queued frames: READ_RECORD and FLUSH_RECORDS (spec/02,
2.4 and 2.5), READ_QUERIES (spec/03, 3.6) and CANCEL_TAG (spec/04, 4.5). -/

namespace Sys2Proof.Machine

/-! ## READ_RECORD (R49, Table 12-10) -/

/-- The status byte of a record: held, bound, held value present, last forwarded present, candidate present, freshness
in bits 6 and 5, origin side in bit 7. -/
def Record.statusByte (r : Record) : Byte :=
  BitVec.ofBool (r.origin == .b) ++ r.freshness.code ++ BitVec.ofBool r.candidate.isSome ++
    BitVec.ofBool r.lastForwarded.isSome ++ BitVec.ofBool r.held.isSome ++ BitVec.ofBool r.bound ++ 1#1

/-- The length of an optional value and the bytes of it that a page carries, 16 on the first page and 8 on the
second. spec/ gives an absent value no length: that byte is the free one (log entry 2, DESIGN CHOICE). -/
def valuePage (x : Option Payload) (second : Bool) (free : Payload) : Payload :=
  match x with
  | some v => countByte v.length :: if second then v.drop 16 else v.take 16
  | none => free

/-- A page of a held record, after its number. An absent last forwarded time reads FFFFFFFFh (log entry 10, DEDUCED). -/
def Record.page (r : Record) (page : Nat) (free : Payload) : Payload :=
  r.statusByte ::
    match page with
    | 0 =>
      tagBytes r.tag ++ be32 r.freshUntil ++ deadlineBytes r.lastForwarded ++ be32 r.lastUse ++
        [countByte r.candidateCount]
    | 1 => valuePage r.held false free
    | 2 => valuePage r.held true free
    | 3 => valuePage r.candidate false free
    | _ => valuePage r.candidate true free

/-- The page is one of a value that the record does not have. -/
def Record.pageAbsent (r : Record) (page : Nat) : Bool :=
  match page with
  | 0 => false
  | 1 | 2 => r.held.isNone
  | _ => r.candidate.isNone

/-- The readout of a record by number; a free one has the held indication clear and nothing after the status byte. -/
def State.readout (i : Fin 48) (page : Nat) (s : State) : State × Reply :=
  match s.tags.records[i] with
  | some r =>
    match s.takeFree (if r.pageAbsent page then 1 else 0) with
    | (s1, free) => (s1, okReply (countByte i.val :: r.page page free))
  | none => (s, okReply [countByte i.val, 0])

/-- A record number 0 to 47. -/
def recordNumber (b : Byte) : Option (Fin 48) := if h : b.toNat < 48 then some ⟨b.toNat, h⟩ else none

/-- READ_RECORD as a command. -/
def readRecordCommand (args : Payload) : Command :=
  openCommand 0x0F fun s =>
    match args with
    | [page, form, number] =>
      if form = 0 ∧ page.toNat ≤ 4 then
        match recordNumber number with
        | some i => s.readout i page.toNat
        | none => (s, bareReply .badArgument)
      else (s, bareReply .badArgument)
    | [page, form, side, h, m, l] =>
      if form = 1 ∧ page.toNat ≤ 4 then
        match Side.ofCode side, argTag h m l with
        | some origin, some tag =>
          match s.tags.find origin tag with
          | some i => s.readout i page.toNat
          | none => (s, okReply [0xFF, 0])
        | _, _ => (s, bareReply .badArgument)
      else (s, bareReply .badArgument)
    | _ => (s, bareReply .badArgument)

/-- READ_RECORD (R49). -/
def execReadRecord (m : Arrival) (seq : Byte) (args : Payload) (s : State) : Host.Outcome State Fault Refusal :=
  addressed m seq args (readRecordCommand args) s

/-! ## FLUSH_RECORDS (R48) -/

/-- FLUSH_RECORDS from the owner: the numbers freed and still held. -/
def runFlush (s : State) : State × Reply :=
  let t := s.tags.flush
  ({ s with tags := t }, okReply [countByte (s.tags.heldCount - t.heldCount), countByte t.heldCount])

/-- FLUSH_RECORDS as a command. -/
def flushCommand (args : Payload) : Command := ownerCommand 0x10 (noArguments args runFlush)

/-- FLUSH_RECORDS (R48). -/
def execFlushRecords (m : Arrival) (seq : Byte) (args : Payload) (s : State) : Host.Outcome State Fault Refusal :=
  addressed m seq args (flushCommand args) s

/-! ## READ_QUERIES (R67, R146, Table 12-11) -/

/-- The fields of an outstanding entry. -/
def QueryEntry.bytes (q : QueryEntry) : Payload :=
  tagBytes q.tag ++ [q.target.code] ++ be32 q.deadline ++
    [countByte q.coalesced, q.cls.setWidth 8, countByte q.record.val]

/-- READ_QUERIES as a command. -/
def readQueriesCommand (args : Payload) : Command :=
  openCommand 0x11 fun s =>
    match args with
    | [first] =>
      if 15 < first.toNat then (s, bareReply .badArgument)
      else
        (s,
          okReply
            (be32 s.now ++ [countByte s.proxy.list.length, first] ++
              match s.proxy.list[first.toNat]? with
              | some q => q.bytes
              | none => []))
    | _ => (s, bareReply .badArgument)

/-- READ_QUERIES (R67). -/
def execReadQueries (m : Arrival) (seq : Byte) (args : Payload) (s : State) : Host.Outcome State Fault Refusal :=
  addressed m seq args (readQueriesCommand args) s

/-! ## CANCEL_TAG (R86) -/

/-- A queued frame that CANCEL_TAG removes: of the tag and not on the line. -/
def QFrame.cancels (t : Tag) (x : QFrame) : Bool := x.frame.carries t && !x.onLine

/-- A queued frame that CANCEL_TAG marks: of the tag, on the line and without a mark. -/
def QFrame.cancelMarks (t : Tag) (x : QFrame) : Bool := x.frame.carries t && x.onLine && x.mark == .none

/-- One queue searched: the frames removed and marked. -/
def State.cancelIn (side : Side) (t : Tag) (s : State) : State × Nat × Nat :=
  let q := s.queues.frames.get side
  let removed := q.countP (QFrame.cancels t)
  let kept := (q.filter fun x => !x.cancels t).map fun x => if x.cancelMarks t then x.marked .cancelled else x
  ((s.onQueue side fun _ => kept).countQueue side fun c => { c with cancelled := satAdd c.cancelled removed },
    removed, q.countP (QFrame.cancelMarks t))

/-- CANCEL_TAG in the named queues; the response carries the numbers removed and marked. -/
def State.cancelTag (sides : Byte) (t : Tag) (s : State) : State × Reply :=
  if sides = 0 then
    match s.cancelIn .a t with
    | (s1, n, k) => (s1, okReply [countByte n, countByte k])
  else if sides = 1 then
    match s.cancelIn .b t with
    | (s1, n, k) => (s1, okReply [countByte n, countByte k])
  else if sides = 2 then
    match s.cancelIn .a t with
    | (s1, n, k) =>
      match s1.cancelIn .b t with
      | (s2, n', k') => (s2, okReply [countByte (n + n'), countByte (k + k')])
  else (s, bareReply .badArgument)

/-- CANCEL_TAG as a command. -/
def cancelTagCommand (args : Payload) : Command :=
  ownerCommand 0x12 fun s =>
    match args with
    | [h, m, l, sides] =>
      match argTag h m l with
      | some t => s.cancelTag sides t
      | none => (s, bareReply .badArgument)
    | _ => (s, bareReply .badArgument)

/-- CANCEL_TAG (R86). -/
def execCancelTag (m : Arrival) (seq : Byte) (args : Payload) (s : State) : Host.Outcome State Fault Refusal :=
  addressed m seq args (cancelTagCommand args) s

end Sys2Proof.Machine
end

