-- ==== Sys2Proof/Machine/Ports.lean ====
section
/-! DEFINITION. The segment ports (spec/05_segment_ports_and_side_health.md): transmitter selection, the end of an
attempt, health and side states, SIDE_CONTROL; and the age deadline of a queued frame (spec/04, 4.4). -/

namespace Sys2Proof.Machine

/-! ## Transmitter selection (R78, R100) -/

/-- A frame put on the line: its attempt begins. -/
def State.beginAttempt (side : Side) (x : QFrame) (rest : List QFrame) (s : State) : State :=
  ((s.onQueue side fun _ => { x with onLine := true } :: rest).onPort side fun p =>
      { p with attempt := some { bytes := x.frame.bytes, lineWait := s.now + Config.lineWait } }).countPort side
    fun c => { c with attemptStarted := bump c.attemptStarted }

/-- Transmitter selection: the first frame of the queue, when the side sends, is idle and has frames (R78). -/
def State.select (side : Side) (s : State) : State :=
  match s.queues.frames.get side with
  | [] => s
  | x :: rest =>
    if (s.ports.get side).state.accepts ∧ (onLineFrame (x :: rest)).isNone then s.beginAttempt side x rest else s

/-- TRANSMITTER_SELECTION (R78). -/
def execTransmitterSelection (side : Side) (s : State) : Host.Outcome State Fault Refusal :=
  .next (s.event (State.select side))

/-! ## The end of an attempt (R79 to R81, R101 to R106) -/

/-- A frame at a place returned to waiting (R80, R81). -/
def State.requeue (side : Side) (i : Nat) (x : QFrame) (s : State) : State :=
  s.onQueue side fun q => q.set i { x with onLine := false }

/-- The fate of an unmarked frame whose attempt failed (R81). -/
def State.failFrame (side : Side) (i : Nat) (x : QFrame) (s : State) : State :=
  if s.agent.params.retryLimit < x.attempts + 1 then
    ((s.onQueue side (·.eraseIdx i)).countQueue side fun c =>
      { c with undeliverable := bump c.undeliverable }).setFlag (.undeliverable side)
  else s.requeue side i { x with attempts := x.attempts + 1 }

/-- The fate of the frame at a place by the outcome of its attempt (Table 4-3). -/
def State.settleFrame (side : Side) (outcome : LineOutcome) (i : Nat) (x : QFrame) (s : State) : State :=
  match outcome with
  | .sent => (s.onQueue side (·.eraseIdx i)).countQueue side fun c => { c with sent := bump c.sent }
  | .lost =>
    if x.mark = .none then s.requeue side i x else (s.onQueue side (·.eraseIdx i)).removedUnder side x.mark
  | .noack | .lineError =>
    if x.mark = .none then s.failFrame side i x else (s.onQueue side (·.eraseIdx i)).removedUnder side x.mark

/-- The fate of the frame on the line (R79 to R81). -/
def State.settleFate (side : Side) (outcome : LineOutcome) (s : State) : State :=
  let q := s.queues.frames.get side
  match q.findIdx? (·.onLine) with
  | some i =>
    match q[i]? with
    | some x => s.settleFrame side outcome i x
    | none => s
  | none => s

/-- The outcome counter of an outcome (Table 5-5). -/
def PortCounters.count (c : PortCounters) : LineOutcome → PortCounters
  | .sent => { c with sent := bump c.sent }
  | .lost => { c with lost := bump c.lost }
  | .noack => { c with noack := bump c.noack }
  | .lineError => { c with lineError := bump c.lineError }

/-- The health score moved by an outcome (R102). -/
def movedScore (score : Nat) : LineOutcome → Nat
  | .sent => score - 1
  | .lost => score
  | .noack | .lineError => min (score + Config.scoreFailure) Config.scoreTop

/-- Entry into SILENT (R88, R106). -/
def State.enterSilent (side : Side) (s : State) : State :=
  let wait := s.agent.params.autoRecover
  let s1 := s.onPort side fun p =>
    { p with
      state := .silent
      recovery := if wait = 0 then none else some (s.now + wait.setWidth 32)
      counters := { p.counters with silentEntry := bump p.counters.silentEntry } }
  (s1.setFlag (.silent side)).purge side fun n c => { c with purgedSilent := satAdd c.purgedSilent n }

/-- Entry into WARNED (R104). -/
def State.enterWarned (side : Side) (s : State) : State :=
  (s.onPort side fun p =>
    { p with
      state := .warned
      counters := { p.counters with warnedEntry := bump p.counters.warnedEntry } }).setFlag (.warned side)

/-- The side state tested against the new score (R104 to R106). -/
def State.testSide (side : Side) (s : State) : State :=
  let p := s.ports.get side
  match p.state with
  | .active =>
    if Config.scoreSilent ≤ p.score then s.enterSilent side
    else if Config.scoreWarned ≤ p.score then s.enterWarned side
    else s
  | .warned =>
    if Config.scoreSilent ≤ p.score then s.enterSilent side
    else if p.score ≤ Config.scoreActive then s.onPort side fun p => { p with state := .active }
    else s
  | .silent | .off => s

/-- The second and third stage of a completion: the outcome counted, the transmitter idle, the score moved (R101,
R102). -/
def Port.completed (outcome : LineOutcome) (p : Port) : Port :=
  { p with
    attempt := none
    score := movedScore p.score outcome
    counters := p.counters.count outcome }

/-- The completion of an attempt in its four stages (R101). Without an attempt in progress there is no completion. -/
def State.endAttempt (side : Side) (outcome : LineOutcome) (s : State) : State :=
  if (s.ports.get side).attempt.isSome then
    (((s.settleFate side outcome).onPort side (Port.completed outcome))).testSide side
  else s

/-- ATTEMPT_COMPLETION (R101). -/
def execAttemptCompletion (side : Side) (outcome : LineOutcome) (s : State) : Host.Outcome State Fault Refusal :=
  .next (s.event (State.endAttempt side outcome))

/-- The line wait of an attempt is over (R100). -/
def Port.lineWaitOver (now : CTime) (p : Port) : Bool :=
  match p.attempt with
  | some x => reached now x.lineWait
  | none => false

/-- LINE_WAIT_EXPIRY (R100): the attempt ends LINE_ERROR once its 20 ms are over. -/
def execLineWaitExpiry (side : Side) (s : State) : Host.Outcome State Fault Refusal :=
  .next (s.event fun s => if (s.ports.get side).lineWaitOver s.now then s.endAttempt side .lineError else s)

/-! ## Recovery (R107, R108) -/

/-- A SILENT side returned to ACTIVE with score 0, counted by `f` (R107, R108). -/
def State.recover (side : Side) (f : PortCounters → PortCounters) (s : State) : State :=
  (s.onPort side fun p =>
    { p with state := .active, score := 0, recovery := none, counters := f p.counters }).setFlag (.recovered side)

/-- The recovery deadline of a SILENT side, when it has been reached (R107). -/
def State.autoRecover (side : Side) (s : State) : State :=
  let p := s.ports.get side
  if p.state = .silent ∧ due s.now p.recovery then
    s.recover side fun c => { c with automaticRecovery := bump c.automaticRecovery }
  else s

/-- RECOVERY_DEADLINE (R107). -/
def execRecoveryDeadline (side : Side) (s : State) : Host.Outcome State Fault Refusal :=
  .next (s.event (State.autoRecover side))

/-! ## AGE_DEADLINE (R83) -/

/-- The age deadline of the frame at a place, when it has been reached. -/
def State.ageOut (side : Side) (place : Nat) (s : State) : State :=
  match (s.queues.frames.get side)[place]? with
  | some x => if due s.now x.ageDeadline then s.expire side place else s
  | none => s

/-- AGE_DEADLINE (R83). -/
def execAgeDeadline (side : Side) (place : Nat) (s : State) : Host.Outcome State Fault Refusal :=
  .next (s.event (State.ageOut side place))

/-! ## SIDE_CONTROL (R108 to R111) -/

/-- The action of a SIDE_CONTROL (Table 12-3). -/
inductive SideAction where
  | off
  | on
  | recover
  deriving DecidableEq, Repr

/-- Action codes. -/
def SideAction.code : SideAction → Byte
  | .off => 0
  | .on => 1
  | .recover => 2

/-- The action a code names. -/
def SideAction.ofCode (b : Byte) : Option SideAction :=
  if b = 0 then some .off else if b = 1 then some .on else if b = 2 then some .recover else none

/-- The answer of a SIDE_CONTROL: side, side state and health score. -/
def State.sideReply (status : Status) (side : Side) (s : State) : Reply :=
  ⟨status, [side.code, (s.ports.get side).state.code, countByte (s.ports.get side).score]⟩

/-- SIDE_CONTROL OFF (R89, R109). -/
def State.sideOff (side : Side) (s : State) : State :=
  ((s.abortAttempt side).purge side fun n c => { c with purgedOff := satAdd c.purgedOff n }).onPort side fun p =>
    { p with state := .off, recovery := none }

/-- SIDE_CONTROL ON of an OFF side (R110). -/
def State.sideOn (side : Side) (s : State) : State := s.onPort side fun p => { p with state := .active, score := 0 }

/-- What an action does in the side state it finds; nothing when that state refuses it. OFF of a side already OFF
changes nothing and is answered OK (R108 to R110). -/
def State.sideAction (side : Side) (action : SideAction) (s : State) : Option State :=
  match action, (s.ports.get side).state with
  | .off, .off => some s
  | .off, _ => some (s.sideOff side)
  | .on, .off => some (s.sideOn side)
  | .on, _ => none
  | .recover, .silent => some (s.recover side fun c => { c with commandedRecovery := bump c.commandedRecovery })
  | .recover, _ => none

/-- A SIDE_CONTROL on one side (R108 to R111). -/
def runSideControl (side : Side) (action : SideAction) (s : State) : State × Reply :=
  match s.sideAction side action with
  | some s1 => (s1, s1.sideReply .ok side)
  | none => (s, s.sideReply .badState side)

/-- SIDE_CONTROL as a command: a side code that names neither A nor B, an action code of none, or a wrong length is
BAD_ARGUMENT (R111, R194). -/
def sideControlCommand (args : Payload) : Command :=
  ownerCommand 0x13 fun s =>
    match args with
    | [target, action] =>
      match Side.ofCode target, SideAction.ofCode action with
      | some side, some a => runSideControl side a s
      | _, _ => (s, bareReply .badArgument)
    | _ => (s, bareReply .badArgument)

/-- SIDE_CONTROL_OFF (R109). -/
def execSideControlOff (m : Arrival) (seq target : Byte) (s : State) : Host.Outcome State Fault Refusal :=
  addressed m seq [target, SideAction.off.code] (sideControlCommand [target, SideAction.off.code]) s

/-- SIDE_CONTROL_ON (R110). -/
def execSideControlOn (m : Arrival) (seq target : Byte) (s : State) : Host.Outcome State Fault Refusal :=
  addressed m seq [target, SideAction.on.code] (sideControlCommand [target, SideAction.on.code]) s

/-- SIDE_CONTROL_RECOVER (R108). -/
def execSideControlRecover (m : Arrival) (seq target : Byte) (s : State) : Host.Outcome State Fault Refusal :=
  addressed m seq [target, SideAction.recover.code] (sideControlCommand [target, SideAction.recover.code]) s

end Sys2Proof.Machine
end

