-- ==== Sys2Proof/Machine/TripCommands.lean ====
section
/-! DEFINITION. SET_TRIP and RELEASE_TRIP (spec/07_isolation_trip.md, 7.4 and 7.5). -/

namespace Sys2Proof.Machine

/-- An entry in use of a bank names trip source `k`. -/
def Bank.namesSource (b : Bank) (k : Fin 4) (i : Fin 64) : Bool :=
  (b.entries[i]).inUse && (b.entries[i]).trip == some k

/-- The lowest source that a configuration leaves undefined and the active bank names, with the first entry in use that
names it (R140 step 4). -/
def Banks.missingSource (b : Banks) (c : TripConfig) : Option (Fin 4 × Fin 64) :=
  (List.finRange 4).findSome? fun k =>
    if (c.sources[k]).isSome then none
    else ((List.finRange 64).find? (b.active.namesSource k)).map fun i => (k, i)

/-- A trip configuration taken (R141). -/
def Trip.configure (c : TripConfig) (t : Trip) : Trip :=
  { t with
    config := c
    state := c.restState
    asserted := 0
    deadline := none
    counters :=
      if t.state = .collecting then { t.counters with abandoned := bump t.counters.abandoned } else t.counters }

/-- SET_TRIP with its arguments of the right length (R140, R141). -/
def runSetTrip (args : Payload) (s : State) : State × Reply :=
  if s.trip.state = .tripped then (s, ⟨.badState, [s.trip.state.code]⟩)
  else
    match TripConfig.ofBytes args with
    | none => (s, bareReply .badArgument)
    | some c =>
      match s.banks.missingSource c with
      | some (k, i) => (s, ⟨.badState, [s.trip.state.code, countByte k.val, countByte i.val]⟩)
      | none => ({ s with trip := s.trip.configure c }, okReply [c.restState.code])

/-- SET_TRIP as a command. -/
def setTripCommand (args : Payload) : Command :=
  ownerCommand 0x16 fun s => if args.length ≠ 15 then (s, bareReply .badArgument) else runSetTrip args s

/-- SET_TRIP (R140). -/
def execSetTrip (m : Arrival) (seq : Byte) (args : Payload) (s : State) : Host.Outcome State Fault Refusal :=
  addressed m seq args (setTripCommand args) s

/-- The release from TRIPPED (R139). -/
def State.releaseTrip (s : State) : State :=
  { s with
    trip :=
      { s.trip with
        state := s.trip.config.restState
        asserted := 0
        isol := false
        counters := { s.trip.counters with releases := bump s.trip.counters.releases } } }.setFlag .tripReleased

/-- RELEASE_TRIP from the owner (R139). -/
def runReleaseTrip (s : State) : State × Reply :=
  if s.trip.state = .tripped then (s.releaseTrip, okReply [s.trip.config.restState.code])
  else (s, ⟨.badState, [s.trip.state.code]⟩)

/-- RELEASE_TRIP as a command. -/
def releaseTripCommand (args : Payload) : Command := ownerCommand 0x17 (noArguments args runReleaseTrip)

/-- RELEASE_TRIP (R139). -/
def execReleaseTrip (m : Arrival) (seq : Byte) (args : Payload) (s : State) : Host.Outcome State Fault Refusal :=
  addressed m seq args (releaseTripCommand args) s

end Sys2Proof.Machine
end

