-- ==== Sys2Proof/Machine/EventCommands.lean ====
section
/-! DEFINITION. READ_EVENTS, CLEAR_EVENTS, ENABLE_EVENTS and the steps ACK and RETRY_DEADLINE
(spec/10_events_and_reports.md, 10.2 to 10.5). -/

namespace Sys2Proof.Machine

/-! ## READ_EVENTS (R185, Table 12-11) -/

/-- The readout of a group: its code, flags, enables, raised state and level. The bits of the two words that Table 12-7
gives no flag of the group are 0: log entry 23, DESIGN CHOICE. -/
def State.groupReadout (g : Group) (s : State) : Payload :=
  [g.code] ++ be16 (s.events.flags.get g) ++ be16 (s.events.enables.get g) ++
    [boolByte (s.events.raised g), countByte (s.agent.params.levels.get g)]

/-- The fields of a report: sequence; group, sends and outstanding in one byte; level, snapshot, creation time and
retry deadline, which reads FFFFFFFFh while the report is not outstanding (Table 12-11). Bits 3 and 2 of the byte of
group and sends, and the bits of the snapshot beyond the group's flags, stand for nothing and are 0: log entry 23,
DESIGN CHOICE. -/
def Report.bytes (r : Report) : Payload :=
  [r.seq, BitVec.ofBool r.outstanding ++ BitVec.ofNat 3 r.sends ++ 0#2 ++ r.group.code.extractLsb' 0 2,
    countByte r.level] ++
    be16 r.snapshot ++ be32 r.time ++ deadlineBytes (if r.outstanding then r.retry else none)

/-- A page of the report list. -/
def State.listReadout (first : Byte) (s : State) : Payload :=
  [countByte s.events.reports.length, s.events.nextSeq] ++ be32 s.now ++ [first] ++
    match s.events.reports[first.toNat]? with
    | some r => r.bytes
    | none => []

/-- READ_EVENTS as a command. -/
def readEventsCommand (args : Payload) : Command :=
  openCommand 0x18 fun s =>
    match args with
    | [selector, first] =>
      match Group.ofCode selector with
      | some g => (s, okReply (s.groupReadout g))
      | none =>
        if selector = 4 ∧ first.toNat ≤ 7 then (s, okReply (s.listReadout first)) else (s, bareReply .badArgument)
    | _ => (s, bareReply .badArgument)

/-- READ_EVENTS (R185). -/
def execReadEvents (m : Arrival) (seq : Byte) (args : Payload) (s : State) : Host.Outcome State Fault Refusal :=
  addressed m seq args (readEventsCommand args) s

/-! ## CLEAR_EVENTS and ENABLE_EVENTS (R176, R177) -/

/-- A set of a group's flags in two bytes: nothing when it names a flag beyond the group's. -/
def flagSet (g : Group) (h l : Byte) : Option (BitVec 16) :=
  let set := h ++ l
  if set &&& ~~~(Events.allFlags.get g) = 0 then some set else none

/-- A group and a set of its flags, of the three argument bytes of the two commands. -/
def groupArgs (args : Payload) : Option (Group × BitVec 16) :=
  match args with
  | [code, h, l] =>
    match Group.ofCode code with
    | some g => (flagSet g h l).map fun set => (g, set)
    | none => none
  | _ => none

/-- The named flags of a group cleared (R176). -/
def State.clearFlags (g : Group) (set : BitVec 16) (s : State) : State :=
  { s with events := { s.events with flags := s.events.flags.set g (s.events.flags.get g &&& ~~~set) } }

/-- CLEAR_EVENTS as a command. -/
def clearEventsCommand (args : Payload) : Command :=
  ownerCommand 0x19 fun s =>
    match groupArgs args with
    | some (g, set) => (s.clearFlags g set, okReply ((s.clearFlags g set).groupReadout g))
    | none => (s, bareReply .badArgument)

/-- CLEAR_EVENTS (R176). -/
def execClearEvents (m : Arrival) (seq : Byte) (args : Payload) (s : State) : Host.Outcome State Fault Refusal :=
  addressed m seq args (clearEventsCommand args) s

/-- The enables of a group replaced (R177). The first send of a report that this makes outstanding is handed to
admission here, before the response is composed, so the group's readout shows the flags that the send itself sets. -/
def State.enableFlags (g : Group) (set : BitVec 16) (s : State) : State :=
  { s with events := s.events.setEnables s.agent.params s.now g set }.settle

/-- ENABLE_EVENTS as a command. -/
def enableEventsCommand (args : Payload) : Command :=
  ownerCommand 0x1A fun s =>
    match groupArgs args with
    | some (g, set) => (s.enableFlags g set, okReply ((s.enableFlags g set).groupReadout g))
    | none => (s, bareReply .badArgument)

/-- ENABLE_EVENTS (R177). -/
def execEnableEvents (m : Arrival) (seq : Byte) (args : Payload) (s : State) : Host.Outcome State Fault Refusal :=
  addressed m seq args (enableEventsCommand args) s

/-! ## ACK and RETRY_DEADLINE (R181, R182) -/

/-- An ACK settles a report: its source is REPORT_STATION and its sequence number the outstanding report's (R182). -/
def State.ackSettles (src : Station) (seq : Byte) (s : State) : Bool :=
  match outstandingReport s.events.reports with
  | some r => src == s.agent.params.reportStation && r.seq == seq
  | none => false

/-- An ACK handed to the event unit (R182). The next report, if any, has its send due at once. -/
def State.takeAck (src : Station) (seq : Byte) (s : State) : State :=
  if s.ackSettles src seq then
    (s.withReports (retireOutstanding s.events.reports)).countEvents fun c =>
      { c with acknowledged := bump c.acknowledged }
  else s.countEvents fun c => { c with ignoredAck := bump c.ignoredAck }

/-- ACK (R143, R182). -/
def execAck (m : Arrival) (seq : Byte) (s : State) : Host.Outcome State Fault Refusal :=
  arrival true m false (ackPayload seq) (State.takeAck m.source seq) s

/-- The send of the outstanding report made due. -/
def Report.sendAgain (r : Report) : Report := if r.outstanding then { r with retry := none } else r

/-- The retry deadline of the outstanding report, when it has been reached: sent again, or given up after 4 sends
(R181). -/
def State.retryReport (s : State) : State :=
  match outstandingReport s.events.reports with
  | some r =>
    if due s.now r.retry then
      if r.sends < Config.reportSends then s.withReports (s.events.reports.map Report.sendAgain)
      else
        (s.withReports (retireOutstanding s.events.reports)).countEvents fun c => { c with givenUp := bump c.givenUp }
    else s
  | none => s

/-- RETRY_DEADLINE (R181). -/
def execRetryDeadline (s : State) : Host.Outcome State Fault Refusal := .next (s.event State.retryReport)

end Sys2Proof.Machine
end

