-- ==== Sys2Proof/Machine/ImageStore.lean ====
section
/-! DEFINITION. The retained image store and start-up (spec/11_retained_image_and_start_up.md): STORE and the steps
STORE_COMPLETION, RST_N_LOW, POWER_LOSS, START_UP and STARTING_END. -/

namespace Sys2Proof.Machine

/-! ## Slots and the newest image (R186) -/

/-- A slot by its number. -/
def ImageStore.slot (x : ImageStore) : SlotId → Slot
  | .zero => x.slot0
  | .one => x.slot1

/-- A slot replaced. -/
def ImageStore.withSlot (x : ImageStore) (i : SlotId) (slot : Slot) : ImageStore :=
  match i with
  | .zero => { x with slot0 := slot }
  | .one => { x with slot1 := slot }

/-- The other slot. -/
def SlotId.other : SlotId → SlotId
  | .zero => .one
  | .one => .zero

/-- The image of a VALID slot. -/
def Slot.image (x : Slot) : Option Image :=
  match x.state with
  | .valid => x.cells.map (·.image)
  | .blank | .damaged => none

/-- Sequence `s` is newer than sequence `t`, modulo 2^32 (R186). -/
def newerSeq (s t : BitVec 32) : Bool := decide (1 ≤ (s - t).toNat) && decide ((s - t).toNat ≤ 2147483647)

/-- The slot of the newest VALID image with the image; slot 0 when both are VALID and neither is newer (R186). -/
def ImageStore.newest (x : ImageStore) : Option (SlotId × Image) :=
  match x.slot0.image, x.slot1.image with
  | some i0, some i1 => if newerSeq i1.seq i0.seq then some (.one, i1) else some (.zero, i0)
  | some i0, none => some (.zero, i0)
  | none, some i1 => some (.one, i1)
  | none, none => none

/-! ## STORE (R187) -/

/-- The target of a STORE: slot 0 when none is VALID, else the slot that does not hold the newest VALID image (R187
step 2). -/
def ImageStore.target (x : ImageStore) : SlotId :=
  match x.newest with
  | some (i, _) => i.other
  | none => .zero

/-- The sequence the next image will carry (R187 step 3). -/
def ImageStore.nextSeq (x : ImageStore) : BitVec 32 :=
  match x.newest with
  | some (_, img) => img.seq + 1
  | none => 1

/-- The snapshot (R187 step 1). -/
def State.snapshot (s : State) : Image where
  bank := s.banks.active
  params := s.agent.params
  enables := s.events.enables
  trip := s.trip.config
  seq := s.image.nextSeq

/-- A slot while an image is written into it: DAMAGED, its marker erased (R187 step 4). The format code and the check
of a half-written slot are not examined before the write ends or the slot loses its chance of a marker. -/
def Slot.written (img : Image) : Slot where
  state := .damaged
  cells := some { formatOk := false, checkOk := false, marker := false, image := img }

/-- A STORE begun (R187 steps 1 to 5). -/
def State.beginStore (s : State) : State :=
  let target := s.image.target
  { s with
    image :=
      { s.image.withSlot target (Slot.written s.snapshot) with
        store := some { target := target, snapshot := s.snapshot, since := s.now } } }

/-- State and sequence of a slot. spec/ gives a slot that is not VALID no sequence: those four bytes are free values
(log entry 2, DESIGN CHOICE). -/
def State.slotReadout (i : SlotId) (s : State) : State × Payload :=
  match (s.image.slot i).image with
  | some img => (s, (s.image.slot i).state.code :: be32 img.seq)
  | none =>
    match s.takeFree 4 with
    | (s1, free) => (s1, (s.image.slot i).state.code :: free)

/-- The response of a STORE that is taken: target, sequence, and both slots after the command (Table 12-12). -/
def State.storeReply (target : SlotId) (seq : BitVec 32) (s : State) : State × Reply :=
  match s.slotReadout .zero with
  | (s1, slot0) =>
    match s1.slotReadout .one with
    | (s2, slot1) => (s2, okReply (target.code :: (be32 seq ++ slot0 ++ slot1)))

/-- STORE from the owner (R187). -/
def runStore (s : State) : State × Reply :=
  match s.image.store with
  | some x => (s, ⟨.busy, [x.target.code]⟩)
  | none => s.beginStore.storeReply s.image.target s.image.nextSeq

/-- STORE as a command. -/
def storeCommand (args : Payload) : Command := ownerCommand 0x1B (noArguments args runStore)

/-- STORE (R187). -/
def execStore (m : Arrival) (seq : Byte) (args : Payload) (s : State) : Host.Outcome State Fault Refusal :=
  addressed m seq args (storeCommand args) s

/-! ## STORE_COMPLETION (R188) -/

/-- A slot whose write has passed its verify: the marker is written and the slot is VALID. -/
def Slot.verified (img : Image) : Slot where
  state := .valid
  cells := some { formatOk := true, checkOk := true, marker := true, image := img }

/-- The end of a write (R188). -/
def State.endStore (verified : Bool) (x : Storing) (s : State) : State :=
  if verified then
    { s with image := { s.image.withSlot x.target (Slot.verified x.snapshot) with store := none } }.setFlag .storeDone
  else { s with image := { s.image with store := none } }.setFlag .storeFailed

/-- The completion of the write in progress, once 200 ms have passed since the STORE (R188). Without one there is no
completion (log entry 6, DESIGN CHOICE). -/
def State.completeStore (verified : Bool) (s : State) : State :=
  match s.image.store with
  | some x => if Config.storeEarliest ≤ s.now - x.since then s.endStore verified x else s
  | none => s

/-- STORE_COMPLETION (R188). -/
def execStoreCompletion (verified : Bool) (s : State) : Host.Outcome State Fault Refusal :=
  .next (s.event (State.completeStore verified))

/-! ## RST_N_LOW and POWER_LOSS (R189, R190) -/

/-- The part without an operation in progress (R189, R190): a write stops, its target staying DAMAGED, and everything
that is not in the slots goes. What the volatile blocks hold until the next start-up is read by nothing; it is set to
the factory start-up values (log entry 11, DESIGN CHOICE). ISOL is low. -/
def State.stopped (phase : Phase) (s : State) : State :=
  { State.started (Image.factory s.image.strap s.image.failmodeHigh)
      { s.image with store := none, loaded := none, flagDue := none } s.free s.pending with
    phase := phase }

/-- RST_N_LOW (R190). -/
def execRstNLow (s : State) : Host.Outcome State Fault Refusal := .next (s.stopped .held)

/-- POWER_LOSS (R189). -/
def execPowerLoss (s : State) : Host.Outcome State Fault Refusal := .next (s.stopped .unpowered)

/-! ## START_UP (R190 to R192) -/

/-- A slot examined (R190 step 3): `checkOk` says whether its check value still agrees with its contents. -/
def Slot.examined (checkOk : Bool) (x : Slot) : Slot :=
  match x.cells with
  | none => { x with state := .blank }
  | some c =>
    let c1 := { c with checkOk := c.checkOk && checkOk }
    { state := if c1.formatOk && c1.checkOk && c1.marker then .valid else .damaged
      cells := some c1 }

/-- Both slots examined and the straps read (R190 steps 2 and 3); no write is in progress (R192). -/
def ImageStore.examined (strap : BitVec 4) (failmodeHigh checks0 checks1 : Bool) (x : ImageStore) : ImageStore where
  slot0 := x.slot0.examined checks0
  slot1 := x.slot1.examined checks1
  store := none
  strap := strap
  failmodeHigh := failmodeHigh
  loaded := none
  flagDue := none

/-- The image flag that the end of STARTING sets (R190 steps 4 and 5). -/
def ImageStore.startFlag (x : ImageStore) : Option Flag :=
  match x.newest with
  | some (i, _) => if (x.slot i.other).state = .damaged then some .imageFallback else none
  | none => some .imageAbsent

/-- What start-up loads: the newest VALID image, else the factory state (R190 steps 4 and 5, R191). -/
def ImageStore.startImage (x : ImageStore) : Image :=
  match x.newest with
  | some (_, img) => img
  | none => Image.factory x.strap x.failmodeHigh

/-- Start-up up to the end of STARTING (R190 to R192). -/
def State.startUp (strap : BitVec 4) (failmodeHigh checks0 checks1 : Bool) (s : State) : State :=
  let x := s.image.examined strap failmodeHigh checks0 checks1
  State.started x.startImage { x with loaded := x.newest.map Prod.fst, flagDue := x.startFlag } s.free s.pending

/-- START_UP (R190). It is taken in every phase (log entry 12, DESIGN CHOICE). -/
def execStartUp (strap : BitVec 4) (failmodeHigh checks0 checks1 : Bool) (s : State) :
    Host.Outcome State Fault Refusal :=
  .next (s.startUp strap failmodeHigh checks0 checks1)

/-! ## STARTING_END (R192) -/

/-- An image flag that is due, set. -/
def State.setDue (s : State) : State :=
  match s.image.flagDue with
  | some f => { s with image := { s.image with flagDue := none } }.setFlag f
  | none => s

/-- A port's receiver begins: at once on a free segment, after the frame in progress on a busy one (R114, R192). -/
def State.beginReceiving (side : Side) (busy : Bool) (s : State) : State :=
  s.onPort side fun p => { p with awaitsStart := busy }

/-- The one event at the end of STARTING: coupler time is 0 and runs, the image flag is set and the ports begin to
receive (R114, R192). -/
def State.endStarting (busyA busyB : Bool) (s : State) : State :=
  match s.phase with
  | .starting =>
    ((({ s with phase := .running, now := 0 }.beginReceiving .a busyA).beginReceiving .b busyB).setDue).settle
  | .unpowered | .held | .running => s

/-- STARTING_END (R192). Outside STARTING there is no such event (log entry 6, DESIGN CHOICE). -/
def execStartingEnd (s : State) (busyA busyB : Bool := false) : Host.Outcome State Fault Refusal :=
  .next (s.endStarting busyA busyB)

end Sys2Proof.Machine
end

