-- ==== Sys2Proof/Machine/Reception.lean ====
section
/-! DEFINITION. A reception (spec/05, R96 to R98, R114): from the bytes on the line to the port, the classifier and,
for a management message to the coupler or broadcast, the agent, which finds the command by its code (R143, Table
12-3). -/

namespace Sys2Proof.Machine

/-- The command a code names (Table 12-3), for the argument bytes of its message; any other code names none (R144
step 2). -/
def commandFor (m : Arrival) (seq code : Byte) (args : Payload) : Command :=
  match code.toNat with
  | 0x01 => identifyCommand args
  | 0x02 => openSessionCommand m seq args
  | 0x03 => closeCommand args
  | 0x04 => statusCommand m args
  | 0x05 => readCountersCommand args
  | 0x06 => clearCountersCommand args
  | 0x07 => readEntryCommand args
  | 0x08 => writeEntryCommand args
  | 0x09 => writeMasksDefaultsCommand args
  | 0x0A => copyActiveCommand args
  | 0x0B => commitCommand args
  | 0x0C => loadBeginCommand args
  | 0x0D => loadPartCommand args
  | 0x0E => loadEndCommand args
  | 0x0F => readRecordCommand args
  | 0x10 => flushCommand args
  | 0x11 => readQueriesCommand args
  | 0x12 => cancelTagCommand args
  | 0x13 => sideControlCommand args
  | 0x14 => setConfigCommand args
  | 0x15 => readConfigCommand args
  | 0x16 => setTripCommand args
  | 0x17 => releaseTripCommand args
  | 0x18 => readEventsCommand args
  | 0x19 => clearEventsCommand args
  | 0x1A => enableEventsCommand args
  | 0x1B => storeCommand args
  | 0x1C => restartCommand args
  | _ => unknownCode code

/-- A message addressed to the coupler, its header read (R143). -/
def State.takeMessage (m : Arrival) (kind seq code : Byte) (args : Payload) (s : State) : State :=
  if kind = 0 then s.take m seq (commandFor m seq code args)
  else if kind = 3 then s.takeAck m.source seq
  else if kind = 1 ∨ kind = 2 then s.countIgnoredMessage
  else s.countBadMessage

/-- A broadcast message, its header read: only a COMMAND IDENTIFY is answered (R143). -/
def State.takeAnnouncement (m : Arrival) (kind seq code : Byte) (args : Payload) (s : State) : State :=
  if 3 < kind then s.countBadMessage
  else if kind = 0 ∧ code = 1 then s.takeBroadcast m seq (identifyCommand args)
  else s.countIgnoredMessage

/-- What the agent does with a MGMT frame that the classifier hands to it (R143). -/
def State.agentTakes (m : Arrival) (toAll : Bool) (payload : Payload) (s : State) : State :=
  match payload with
  | kind :: seq :: code :: _ :: args =>
    if toAll then s.takeAnnouncement m kind seq code args else s.takeMessage m kind seq code args
  | _ => s.countBadMessage

/-- The classifier's treatment of a good frame by its kind (R15, R16, R27). -/
def State.classify (side : Side) (f : Frame) (s : State) : State :=
  match f.body with
  | .data reply tag => s.classifyData side reply tag f
  | .query reply tag => s.classifyQuery side reply tag f
  | .mgmt reply dst src =>
    let m : Arrival := { side := side, source := src, cls := f.cls, hop := f.hop, reply := reply }
    s.classifyMgmt side f dst src (State.agentTakes m (dst == stationBroadcast) f.payload)
  | .unknown => s.dropMalformed side

/-- A reception that ends at a port (R96 to R98, R114). -/
def State.receive (side : Side) (bytes : List Byte) (s : State) : State :=
  s.endOfFrame side fun s =>
    match readFrame bytes with
    | some f => s.receiveGood side (State.classify side f)
    | none => s.receiveBad side

/-- RECEPTION (R96). -/
def execReception (side : Side) (bytes : List Byte) (s : State) : Host.Outcome State Fault Refusal :=
  .next (s.event (State.receive side bytes))

end Sys2Proof.Machine
end

