-- ==== Sys2Proof/Machine/Dispatch.lean ====
section
/-! DEFINITION. One arm for each row of spec/opcode_table.json, each a direct call of the row's meaning. -/

namespace Sys2Proof.Machine

/-- The effect of a command on everything but the queue of waiting commands. -/
def exec (i : Instr) (s : State) : Host.Outcome State Fault Refusal :=
  match i with
  | .rstNLow => Sys2Proof.Machine.execRstNLow s
  | .powerLoss => Sys2Proof.Machine.execPowerLoss s
  | .startUp strap failmodeHigh checks0 checks1 => Sys2Proof.Machine.execStartUp strap failmodeHigh checks0 checks1 s
  | .startingEnd busyA busyB => Sys2Proof.Machine.execStartingEnd s busyA busyB
  | .reception side bytes => Sys2Proof.Machine.execReception side bytes s
  | .transmitterSelection side => Sys2Proof.Machine.execTransmitterSelection side s
  | .lineWaitExpiry side => Sys2Proof.Machine.execLineWaitExpiry side s
  | .attemptCompletion side outcome => Sys2Proof.Machine.execAttemptCompletion side outcome s
  | .recoveryDeadline side => Sys2Proof.Machine.execRecoveryDeadline side s
  | .ageDeadline side place => Sys2Proof.Machine.execAgeDeadline side place s
  | .freshnessDeadline record => Sys2Proof.Machine.execFreshnessDeadline record s
  | .queryEntryDeadline place => Sys2Proof.Machine.execQueryEntryDeadline place s
  | .windowDeadline => Sys2Proof.Machine.execWindowDeadline s
  | .leaseDeadline => Sys2Proof.Machine.execLeaseDeadline s
  | .idleDeadline => Sys2Proof.Machine.execIdleDeadline s
  | .retryDeadline => Sys2Proof.Machine.execRetryDeadline s
  | .storeCompletion verified => Sys2Proof.Machine.execStoreCompletion verified s
  | .ack m seq => Sys2Proof.Machine.execAck m seq s
  | .badMessage m toAll payload => Sys2Proof.Machine.execBadMessage m toAll payload s
  | .ignoredMessage m toAll payload => Sys2Proof.Machine.execIgnoredMessage m toAll payload s
  | .unknownCommand m seq code args => Sys2Proof.Machine.execUnknownCommand m seq code args s
  | .identify m toAll seq args => Sys2Proof.Machine.execIdentify m toAll seq args s
  | .openSession m seq args => Sys2Proof.Machine.execOpen m seq args s
  | .closeSession m seq args => Sys2Proof.Machine.execClose m seq args s
  | .readStatus m seq args => Sys2Proof.Machine.execReadStatus m seq args s
  | .readCounters m seq args => Sys2Proof.Machine.execReadCounters m seq args s
  | .clearCounters m seq args => Sys2Proof.Machine.execClearCounters m seq args s
  | .readEntry m seq args => Sys2Proof.Machine.execReadEntry m seq args s
  | .writeEntry m seq args => Sys2Proof.Machine.execWriteEntry m seq args s
  | .writeMasksDefaults m seq args => Sys2Proof.Machine.execWriteMasksDefaults m seq args s
  | .copyActive m seq args => Sys2Proof.Machine.execCopyActive m seq args s
  | .commit m seq args => Sys2Proof.Machine.execCommit m seq args s
  | .loadBegin m seq args => Sys2Proof.Machine.execLoadBegin m seq args s
  | .loadPart m seq args => Sys2Proof.Machine.execLoadPart m seq args s
  | .loadEnd m seq args => Sys2Proof.Machine.execLoadEnd m seq args s
  | .readRecord m seq args => Sys2Proof.Machine.execReadRecord m seq args s
  | .flushRecords m seq args => Sys2Proof.Machine.execFlushRecords m seq args s
  | .readQueries m seq args => Sys2Proof.Machine.execReadQueries m seq args s
  | .cancelTag m seq args => Sys2Proof.Machine.execCancelTag m seq args s
  | .sideControlOff m seq target => Sys2Proof.Machine.execSideControlOff m seq target s
  | .sideControlOn m seq target => Sys2Proof.Machine.execSideControlOn m seq target s
  | .sideControlRecover m seq target => Sys2Proof.Machine.execSideControlRecover m seq target s
  | .setConfig m seq args => Sys2Proof.Machine.execSetConfig m seq args s
  | .readConfig m seq args => Sys2Proof.Machine.execReadConfig m seq args s
  | .setTrip m seq args => Sys2Proof.Machine.execSetTrip m seq args s
  | .releaseTrip m seq args => Sys2Proof.Machine.execReleaseTrip m seq args s
  | .readEvents m seq args => Sys2Proof.Machine.execReadEvents m seq args s
  | .clearEvents m seq args => Sys2Proof.Machine.execClearEvents m seq args s
  | .enableEvents m seq args => Sys2Proof.Machine.execEnableEvents m seq args s
  | .store m seq args => Sys2Proof.Machine.execStore m seq args s
  | .restart m seq args => Sys2Proof.Machine.execRestart m seq args s

end Sys2Proof.Machine
end

