-- ==== Sys2Proof/Machine/Step.lean ====
section
/-! DEFINITION. One step of the part: the command at the front of the queue, or a millisecond of coupler time. -/

namespace Sys2Proof.Machine

/-- One step: the command at the front of the queue is taken and run with the queue's rest; on an empty queue a
millisecond of coupler time passes (log entry 6, DESIGN CHOICE). -/
def step (s : State) : Host.Outcome State Fault Refusal :=
  match s.pending with
  | [] => .next s.tick
  | c :: rest => exec c { s with pending := rest }

/-- The command that a word of the table spells put at the front of the queue. The table gives no row any bits, so no
word spells one (log entry 13, DEDUCED). -/
def State.withFetchWord (s : State) (nbits w : Nat) : State :=
  match decodeTableWord nbits w with
  | some c => { s with pending := c :: s.pending }
  | none => s

end Sys2Proof.Machine
end

