-- ==== Sys2Proof/Safety.lean ====
section
/-! DEFINITION. What a safe run of the KX-412 keeps (the invariants that its chapters state in prose), and the words in
which claims speak of a state: what a message finds, and the part of the state that its delivery leaves alone. -/

namespace Sys2Proof.Machine

/-- A property of both sides. -/
abbrev BothSides (P : Side → Prop) : Prop := P .a ∧ P .b

/-! ## Invariants -/

/-- The pool and the ceilings hold (R70, R73). -/
abbrev State.PoolOk (s : State) : Prop :=
  s.queues.frames.a.length + s.queues.frames.b.length ≤ Config.poolSlots ∧
    BothSides fun side => (s.queues.frames.get side).length ≤ s.agent.params.ceiling.get side

/-- A queue in transmission order: no frame stands behind one of lower class (R72). -/
abbrev Ordered (q : List QFrame) : Prop := q.Pairwise fun x y => y.frame.cls ≤ x.frame.cls

/-- Both queues are in transmission order. -/
abbrev State.OrderOk (s : State) : Prop := BothSides fun side => Ordered (s.queues.frames.get side)

/-- The score that a side state goes with (R104 to R106). -/
abbrev SideState.fits (state : SideState) (score : Nat) : Prop :=
  match state with
  | .active => score < Config.scoreWarned
  | .warned => Config.scoreActive < score ∧ score < Config.scoreSilent
  | .silent => Config.scoreSilent ≤ score ∧ score ≤ Config.scoreTop
  | .off => score ≤ Config.scoreTop

/-- A port and its queue agree: one frame is on the line just while an attempt is in progress (R78, R100), a side that
takes no frames has none (R88, R89), the score goes with the side state, and only a SILENT side waits to recover
(R106, R107). -/
abbrev Port.Agrees (p : Port) (q : List QFrame) : Prop :=
  q.countP (·.onLine) = p.attempt.toList.length ∧ (p.state.accepts = false → q = []) ∧ p.state.fits p.score ∧
    (p.recovery.isSome → p.state = .silent)

/-- Both ports agree with their queues. -/
abbrev State.LineOk (s : State) : Prop :=
  BothSides fun side => (s.ports.get side).Agrees (s.queues.frames.get side)

/-- The asserted set that a trip state goes with (R134 to R139). -/
abbrev Trip.SetOk (t : Trip) : Prop :=
  match t.state with
  | .disarmed | .watching => t.asserted = 0
  | .collecting => t.asserted ≠ 0 ∧ t.asserted &&& t.config.required = t.asserted ∧ t.asserted ≠ t.config.required
  | .tripped => t.asserted = t.config.required ∧ t.last.isSome

/-- The trip unit is coherent: ISOL is high just while TRIPPED (R137 to R139), a window runs just while COLLECTING
(R135, R136), and it is DISARMED just while no source is required (R134). -/
abbrev Trip.Coherent (t : Trip) : Prop :=
  (t.isol = true ↔ t.state = .tripped) ∧ (t.deadline.isSome ↔ t.state = .collecting) ∧
    (t.state = .disarmed ↔ t.config.required = 0) ∧ t.SetOk

/-- The key of a held record. -/
def Record.key (r : Record) : Side × Tag := (r.origin, r.tag)

/-- The key of an outstanding entry. -/
def QueryEntry.key (q : QueryEntry) : Side × Tag := (q.target, q.tag)

/-- A record is well kept: a candidate goes with its count (R43), and only a held value is FRESH or STALE (R46). -/
abbrev Record.Kept (r : Record) : Prop :=
  (r.candidate = none ↔ r.candidateCount = 0) ∧ r.candidateCount ≤ 2 ∧ (r.freshness ≠ .none → r.held.isSome)

/-- No two held records have one key (R33). -/
abbrev TagMemory.KeysOk (t : TagMemory) : Prop :=
  ∀ i j : Fin 48, i < j → (t.records[i]).isSome → (t.records[i]).map Record.key ≠ (t.records[j]).map Record.key

/-- The outstanding list and the records it binds agree: at most 16 entries, one for a key, each bound to the held
record of its key, and no other record is bound (R39, R52). -/
abbrev State.BindingsOk (s : State) : Prop :=
  s.proxy.list.length ≤ Config.outstanding ∧ (s.proxy.list.map QueryEntry.key).Nodup ∧
    (∀ q ∈ s.proxy.list, ∃ r ∈ s.tags.records[q.record], r.bound = true ∧ r.key = q.key) ∧
    ∀ i : Fin 48, ∀ r ∈ s.tags.records[i], r.bound = true → ∃ q ∈ s.proxy.list, q.record = i

/-- The tag memory and the outstanding list are as R33, R39 and R52 say. -/
abbrev State.RecordsOk (s : State) : Prop :=
  s.tags.KeysOk ∧ s.BindingsOk ∧ ∀ i : Fin 48, ∀ r ∈ s.tags.records[i], r.Kept

/-- A report between events: its snapshot is fixed, and the outstanding one has been sent 1 to 4 times and waits for
its retry deadline while the others have not been sent (R180, R181). -/
abbrev Report.Waits (r : Report) : Prop :=
  r.making = false ∧
    if r.outstanding then 1 ≤ r.sends ∧ r.sends ≤ Config.reportSends ∧ r.retry.isSome else r.sends = 0 ∧ r.retry = none

/-- The report list is as R178 to R181 say: at most 8 reports in order of level, one outstanding unless the list is
empty. -/
abbrev State.ReportsOk (s : State) : Prop :=
  s.events.reports.length ≤ Config.reports ∧ s.events.reports.Pairwise (fun r x => x.level ≤ r.level) ∧
    s.events.reports.countP (·.outstanding) = min 1 s.events.reports.length ∧ ∀ r ∈ s.events.reports, r.Waits

/-- The owner of a session is a real station other than the coupler, with a lease (R27, R148, R156). -/
abbrev Session.Proper (own : Station) (x : Session) : Prop :=
  x.owner ≠ stationBroadcast ∧ x.owner ≠ stationNone ∧ x.owner ≠ own ∧ x.lease ≠ 0

/-- A transfer open in a shadow state: 1 to 65 parts declared and no more applied (R164, R166). -/
abbrev ShadowState.Counted : ShadowState → Prop
  | .loading t => 1 ≤ t.declared ∧ t.declared ≤ 65 ∧ t.expected ≤ t.declared
  | .clean | .incomplete => True

/-- The shadow state is LOADING. -/
def ShadowState.isLoading : ShadowState → Bool
  | .loading _ => true
  | .clean | .incomplete => false

/-- The session and the open transfer are as R147 and R163 say: a transfer is open in a session only. -/
abbrev State.SessionOk (s : State) : Prop :=
  (∀ x ∈ s.agent.session, x.Proper s.agent.params.ownStation) ∧ s.banks.shadowState.Counted ∧
    (s.banks.shadowState.isLoading = true → s.agent.session.isSome)

/-- All parameters of Table 8-5. -/
def ParamId.all : List ParamId :=
  [.ownStation, .start .a, .start .b, .retryLimit, .autoRecover, .ceiling .a, .ceiling .b, .ageLimit 0, .ageLimit 1,
    .ageLimit 2, .ageLimit 3, .originHop, .mgmtClass, .queryTimeout, .reportStation, .reportSide, .level .port,
    .level .table, .level .traffic, .level .guard]

/-- Every parameter is within its range (Table 8-5). -/
abbrev Params.InRange (p : Params) : Prop :=
  (∀ i ∈ ParamId.all, i.admits (p.value i) = true) ∧ p.retryLimit ≤ 7 ∧ (p.ceiling.a ≤ 48 ∧ p.ceiling.b ≤ 48) ∧
    (p.levels.port ≤ 7 ∧ p.levels.table ≤ 7 ∧ p.levels.traffic ≤ 7 ∧ p.levels.guard ≤ 7)

/-- A slot holds parameters within range, and is VALID only with a complete image whose check agrees (R186). -/
abbrev Slot.Sound (x : Slot) : Prop :=
  (∀ c ∈ x.cells, c.image.params.InRange) ∧
    (x.state = .valid → ∃ c ∈ x.cells, c.formatOk = true ∧ c.checkOk = true ∧ c.marker = true)

/-- A write in progress: the part runs, the target slot is DAMAGED without a valid marker (R187, R189), and the
snapshot is in range. -/
abbrev State.StoreOk (s : State) : Prop :=
  ∀ x ∈ s.image.store,
    s.phase = .running ∧ s.image.slot x.target = Slot.written x.snapshot ∧ x.snapshot.params.InRange

/-- The parameters, the slots and the write in progress are as Table 8-5 and R186 to R189 say. -/
abbrev State.SettingsOk (s : State) : Prop :=
  s.agent.params.InRange ∧ s.image.slot0.Sound ∧ s.image.slot1.Sound ∧ s.StoreOk

/-- Every stored or queued payload fits a frame, and the cached response fits a message (R96, R146). -/
abbrev State.PayloadsOk (s : State) : Prop :=
  (BothSides fun side => ∀ x ∈ s.queues.frames.get side, x.frame.payload.length ≤ Config.payload) ∧
    (∀ i : Fin 48, ∀ r ∈ s.tags.records[i],
      (∀ v ∈ r.held, v.length ≤ Config.payload) ∧ ∀ v ∈ r.candidate, v.length ≤ Config.payload) ∧
    ∀ x ∈ s.agent.session, x.cached.args.length ≤ Config.arguments

/-- A part that does not run holds nothing in progress and ISOL is low (R190). -/
abbrev State.HeldOk (s : State) : Prop :=
  s.phase ≠ .running →
    s.trip.isol = false ∧ s.image.store = none ∧ s.events.reports = [] ∧
      BothSides fun side => s.queues.frames.get side = [] ∧ (s.ports.get side).attempt = none

/-! ## What claims speak of -/

/-- Between events no report waits for its first send or its snapshot: nothing is left to settle. -/
abbrev State.Quiet (s : State) : Prop :=
  ∀ r ∈ s.events.reports, r.making = false ∧ (r.outstanding = true → r.retry.isSome)

/-- No report can be made, and none waits to be sent: setting a flag changes the flag and nothing else. -/
abbrev State.Unreported (s : State) : Prop := s.Quiet ∧ s.agent.params.reportStation = stationNone

/-- A frame whose reception ends at a port is taken: the part runs, the port is not OFF, and the frame is not the one
that was in progress when STARTING ended (R96, R114). -/
abbrev State.Receives (s : State) (side : Side) : Prop :=
  s.phase = .running ∧ (s.ports.get side).awaitsStart = false ∧ (s.ports.get side).state ≠ .off

/-- A frame of some kind toward a side is sure to be queued without displacing another: the side takes frames, its
queue is below the ceiling and a slot is free (R75). -/
abbrev State.Room (s : State) (side : Side) : Prop :=
  (s.ports.get side).state.accepts = true ∧
    (s.queues.frames.get side).length < s.agent.params.ceiling.get side ∧
    s.queues.frames.a.length + s.queues.frames.b.length < Config.poolSlots

/-- A message that arrives as `m` is handed to the agent: its frame is taken at the port, and neither address is one
that R27 drops. -/
abbrev State.Hears (s : State) (m : Arrival) : Prop :=
  s.Receives m.side ∧ m.source ≠ stationBroadcast ∧ m.source ≠ stationNone ∧
    m.source ≠ s.agent.params.ownStation ∧ s.agent.params.ownStation ≠ stationNone

/-- A new command of the session owner `x`: handed to the agent and no duplicate (R144, R152). -/
abbrev State.HearsOwner (s : State) (m : Arrival) (seq : Byte) (x : Session) : Prop :=
  s.Hears m ∧ s.agent.session = some x ∧ x.owner = m.source ∧ x.lastSeq ≠ seq

/-- The session as a new owner command that is answered with `r` leaves it: renewed, and the response cached (R149,
R152). -/
def Session.answered (x : Session) (now : CTime) (side : Side) (r : Response) : Session :=
  { owner := x.owner
    lease := x.lease
    deadline := now + 1000 * x.lease.setWidth 32
    side := side
    lastSeq := r.seq
    cached := r }

/-- What a port holds besides its counters and the acknowledgement slot. -/
structure PortView where
  state       : SideState
  score       : Nat
  attempt     : Option Attempt
  recovery    : Option CTime
  awaitsStart : Bool
  deriving DecidableEq, Repr

/-- The view of a port. -/
def Port.view (p : Port) : PortView := ⟨p.state, p.score, p.attempt, p.recovery, p.awaitsStart⟩

/-- The steady part of a state: all of it but the queues, the event unit, the free bytes, the commands that wait, and
the counters of the port, the classifier, the queue manager and the agent. Delivering a message to the agent, sending
its response and sending reports change nothing of it. -/
structure Steady where
  phase       : Phase
  now         : CTime
  active      : Bank
  shadow      : Bank
  shadowState : ShadowState
  hits        : Vector Counter 64
  bankCounts  : BankCounters
  tags        : TagMemory
  proxy       : Proxy
  portA       : PortView
  portB       : PortView
  trip        : Trip
  session     : Option Session
  params      : Params
  image       : ImageStore
  deriving DecidableEq, Repr

/-- The steady part. -/
def State.steady (s : State) : Steady where
  phase := s.phase
  now := s.now
  active := s.banks.active
  shadow := s.banks.shadow
  shadowState := s.banks.shadowState
  hits := s.banks.hits
  bankCounts := s.banks.counters
  tags := s.tags
  proxy := s.proxy
  portA := s.ports.a.view
  portB := s.ports.b.view
  trip := s.trip
  session := s.agent.session
  params := s.agent.params
  image := s.image

/-- What the steady part leaves out, beside the waiting commands: the queue manager, the event unit, the free bytes and
the counters of the ports, the classifier and the agent. -/
structure Rest where
  queues       : Queues
  events       : Events
  classifier   : PerSide ClassifierCounters
  acknowledged : PerSide Bool
  portCounts   : PerSide PortCounters
  agentCounts  : AgentCounters
  free         : Nat
  deriving DecidableEq, Repr

/-- The rest of a state. -/
def State.rest (s : State) : Rest where
  queues := s.queues
  events := s.events
  classifier := s.banks.classifier
  acknowledged := ⟨s.ports.a.acknowledged, s.ports.b.acknowledged⟩
  portCounts := ⟨s.ports.a.counters, s.ports.b.counters⟩
  agentCounts := s.agent.counters
  free := s.free

/-- A good frame heard at a port: acknowledged and counted *received-good*, and nothing else changed (R96). -/
def State.heard (s : State) (side : Side) : State :=
  { s with
    ports := s.ports.modify side fun p =>
      { p with acknowledged := true, counters := { p.counters with receivedGood := bump p.counters.receivedGood } } }

/-- A MGMT frame handed to the agent: heard and counted *MGMT taken* (R27). -/
def State.handed (s : State) (m : Arrival) : State :=
  (s.heard m.side).countClassifier m.side fun c => { c with mgmtTaken := bump c.mgmtTaken }

/-- The state in which the agent finds an addressed command or a broadcast IDENTIFY: handed over and counted *commands*
(Table 8-8), and nothing else changed. -/
def State.delivered (s : State) (m : Arrival) : State :=
  (s.handed m).countAgent fun c => { c with commands := bump c.commands }

/-- The response queued toward the side of its command and counted *admitted*, and nothing else changed (R75, R145). -/
def State.queueResponse (s : State) (m : Arrival) (r : Response) : State :=
  s.enqueue m.side (responseFrame s.agent.params m.source r)

/-- The frame of the `n`th send of a report (Table 12-8). -/
def Report.sent (r : Report) (p : Params) (n : Nat) : Frame where
  body := .mgmt false p.reportStation p.ownStation
  cls := p.mgmtClass
  hop := p.originHop
  payload := [0x02, r.seq, r.group.code, 0x00, countByte r.level] ++ be16 r.snapshot ++ be32 r.time ++ [countByte n]

/-- A state with every counter of every set at 0 and everything else as it is: what CLEAR_COUNTERS may change is what
this hides (Table 8-7). -/
def State.uncounted (s : State) : State :=
  { s with
    banks :=
      { s.banks with
        classifier := ⟨ClassifierCounters.zero, ClassifierCounters.zero⟩
        counters := BankCounters.zero }
    tags := { s.tags with counters := TagCounters.zero }
    proxy := { s.proxy with counters := ⟨ProxyCounters.zero, ProxyCounters.zero⟩ }
    queues := { s.queues with counters := ⟨QueueCounters.zero, QueueCounters.zero⟩ }
    ports := ⟨{ s.ports.a with counters := PortCounters.zero }, { s.ports.b with counters := PortCounters.zero }⟩
    trip := { s.trip with counters := TripCounters.zero }
    agent := { s.agent with counters := AgentCounters.zero }
    events := { s.events with counters := EventCounters.zero } }

/-- An open command that changes nothing itself is answered `r`: the owner's session is renewed and keeps the response,
any other station's stays, and the response is queued (R144, R145, R149, R152). -/
def State.answeredBy (s : State) (m : Arrival) (r : Response) : State :=
  (s.keepResponse m r).queueResponse m r

/-- Beside the steady part the state `t` after an event is `u`, the setting of `flags` added: no other flag, enable,
report, queued frame or count of the rest has changed. -/
def State.Leaves (u t : State) (flags : List Flag) : Prop :=
  t.rest = { u with events := flags.foldl Events.mark u.events }.rest

/-- Where no report can be made and the response is sure of room, the event of the command `m` that is answered `r` and
sets `flags` changes nothing beside the steady part but these flags and what the delivery and the response change. -/
def State.AnswersOnly (s t : State) (m : Arrival) (r : Response) (flags : List Flag) : Prop :=
  s.Unreported → s.Room m.side → ((s.delivered m).queueResponse m r).Leaves t flags

/-- The owner's new command `i`, of session `x`, runs and is answered: of the steady part nothing changes but the
session, which keeps the response of this code, status and arguments, and no flag is set. -/
def State.Answers (s : State) (i : Instr) (m : Arrival) (seq : Byte) (x : Session) (code : Byte) (status : Status)
    (args : Payload) : Prop :=
  ∃ t, exec i s = .next t ∧ s.AnswersOnly t m ⟨seq, code, status, args⟩ [] ∧
    t.steady = { s.steady with session := some (x.answered s.now m.side ⟨seq, code, status, args⟩) }

/-- A command of this source and sequence number is no duplicate (R144 step 1): its source is not the owner or its
sequence number is not the last. -/
abbrev State.NewCommand (s : State) (m : Arrival) (seq : Byte) : Prop :=
  ∀ x ∈ s.agent.session, x.owner = m.source → x.lastSeq ≠ seq

/-- The entry claims a frame: the four conditions of R13, the comparison of tags spelled out bit by bit as R4 gives
it. -/
def Entry.Claims (e : Entry) (h : BankHeader) (side : Side) (query : Bool) (t : Tag) : Prop :=
  e.inUse = true ∧ (match side with | .a => e.onA = true | .b => e.onB = true) ∧
    (match query with | true => e.query = true | false => e.data = true) ∧
    match e.mode with
    | .exact => t = e.tag
    | .mask n => ∀ k : Fin 20, (h.masks[n]).getLsbD k.val = true → t.getLsbD k.val = e.tag.getLsbD k.val
    | .any => True

end Sys2Proof.Machine

namespace Sys2Proof

/-! ## Rows by kind -/

/-- The rows that power, reset and start-up make: the only ones that a part which does not run takes (R190). -/
def Instr.isPowerEvent : Instr → Bool
  | .rstNLow | .powerLoss | .startUp _ _ _ _ | .startingEnd _ _ => true
  | .reception _ _ | .transmitterSelection _ | .lineWaitExpiry _ | .attemptCompletion _ _ | .recoveryDeadline _
  | .ageDeadline _ _ | .freshnessDeadline _ | .queryEntryDeadline _ | .windowDeadline | .leaseDeadline | .idleDeadline
  | .retryDeadline | .storeCompletion _ | .ack _ _ | .badMessage _ _ _ | .ignoredMessage _ _ _
  | .unknownCommand _ _ _ _ | .identify _ _ _ _ | .openSession _ _ _ | .closeSession _ _ _ | .readStatus _ _ _
  | .readCounters _ _ _ | .clearCounters _ _ _ | .readEntry _ _ _ | .writeEntry _ _ _ | .writeMasksDefaults _ _ _
  | .copyActive _ _ _ | .commit _ _ _ | .loadBegin _ _ _ | .loadPart _ _ _ | .loadEnd _ _ _ | .readRecord _ _ _
  | .flushRecords _ _ _ | .readQueries _ _ _ | .cancelTag _ _ _ | .sideControlOff _ _ _ | .sideControlOn _ _ _
  | .sideControlRecover _ _ _ | .setConfig _ _ _ | .readConfig _ _ _ | .setTrip _ _ _ | .releaseTrip _ _ _
  | .readEvents _ _ _ | .clearEvents _ _ _ | .enableEvents _ _ _ | .store _ _ _ | .restart _ _ _ => false

/-- The message that a row carries to the coupler: its arrival, whether it is broadcast, and its payload (Tables 12-2
and 12-3). -/
def Instr.message : Instr → Option (Arrival × Bool × Payload)
  | .rstNLow | .powerLoss | .startUp _ _ _ _ | .startingEnd _ _ | .reception _ _ | .transmitterSelection _
  | .lineWaitExpiry _ | .attemptCompletion _ _ | .recoveryDeadline _ | .ageDeadline _ _ | .freshnessDeadline _
  | .queryEntryDeadline _ | .windowDeadline | .leaseDeadline | .idleDeadline | .retryDeadline
  | .storeCompletion _ => none
  | .ack m seq => some (m, false, [0x03, seq, 0x00, 0x00])
  | .badMessage m toAll payload => some (m, toAll, payload)
  | .ignoredMessage m toAll payload => some (m, toAll, payload)
  | .unknownCommand m seq code args => some (m, false, 0x00 :: seq :: code :: 0x00 :: args)
  | .identify m toAll seq args => some (m, toAll, 0x00 :: seq :: 0x01 :: 0x00 :: args)
  | .openSession m seq args => some (m, false, 0x00 :: seq :: 0x02 :: 0x00 :: args)
  | .closeSession m seq args => some (m, false, 0x00 :: seq :: 0x03 :: 0x00 :: args)
  | .readStatus m seq args => some (m, false, 0x00 :: seq :: 0x04 :: 0x00 :: args)
  | .readCounters m seq args => some (m, false, 0x00 :: seq :: 0x05 :: 0x00 :: args)
  | .clearCounters m seq args => some (m, false, 0x00 :: seq :: 0x06 :: 0x00 :: args)
  | .readEntry m seq args => some (m, false, 0x00 :: seq :: 0x07 :: 0x00 :: args)
  | .writeEntry m seq args => some (m, false, 0x00 :: seq :: 0x08 :: 0x00 :: args)
  | .writeMasksDefaults m seq args => some (m, false, 0x00 :: seq :: 0x09 :: 0x00 :: args)
  | .copyActive m seq args => some (m, false, 0x00 :: seq :: 0x0A :: 0x00 :: args)
  | .commit m seq args => some (m, false, 0x00 :: seq :: 0x0B :: 0x00 :: args)
  | .loadBegin m seq args => some (m, false, 0x00 :: seq :: 0x0C :: 0x00 :: args)
  | .loadPart m seq args => some (m, false, 0x00 :: seq :: 0x0D :: 0x00 :: args)
  | .loadEnd m seq args => some (m, false, 0x00 :: seq :: 0x0E :: 0x00 :: args)
  | .readRecord m seq args => some (m, false, 0x00 :: seq :: 0x0F :: 0x00 :: args)
  | .flushRecords m seq args => some (m, false, 0x00 :: seq :: 0x10 :: 0x00 :: args)
  | .readQueries m seq args => some (m, false, 0x00 :: seq :: 0x11 :: 0x00 :: args)
  | .cancelTag m seq args => some (m, false, 0x00 :: seq :: 0x12 :: 0x00 :: args)
  | .sideControlOff m seq target => some (m, false, [0x00, seq, 0x13, 0x00, target, 0x00])
  | .sideControlOn m seq target => some (m, false, [0x00, seq, 0x13, 0x00, target, 0x01])
  | .sideControlRecover m seq target => some (m, false, [0x00, seq, 0x13, 0x00, target, 0x02])
  | .setConfig m seq args => some (m, false, 0x00 :: seq :: 0x14 :: 0x00 :: args)
  | .readConfig m seq args => some (m, false, 0x00 :: seq :: 0x15 :: 0x00 :: args)
  | .setTrip m seq args => some (m, false, 0x00 :: seq :: 0x16 :: 0x00 :: args)
  | .releaseTrip m seq args => some (m, false, 0x00 :: seq :: 0x17 :: 0x00 :: args)
  | .readEvents m seq args => some (m, false, 0x00 :: seq :: 0x18 :: 0x00 :: args)
  | .clearEvents m seq args => some (m, false, 0x00 :: seq :: 0x19 :: 0x00 :: args)
  | .enableEvents m seq args => some (m, false, 0x00 :: seq :: 0x1A :: 0x00 :: args)
  | .store m seq args => some (m, false, 0x00 :: seq :: 0x1B :: 0x00 :: args)
  | .restart m seq args => some (m, false, 0x00 :: seq :: 0x1C :: 0x00 :: args)

/-- The row is a command addressed to the coupler, of this code (Table 12-3): its arrival, sequence number and code. -/
def Instr.command (i : Instr) : Option (Arrival × Byte × Byte) :=
  match i.message with
  | some (m, false, 0x00 :: seq :: code :: _ :: _) => some (m, seq, code)
  | _ => none

/-- The argument bytes of a command addressed to the coupler. -/
def Instr.args (i : Instr) : Payload :=
  match i.message with
  | some (_, _, payload) => payload.drop 4
  | none => []

/-- The argument lengths that Table 12-3 gives a command code; LOAD_PART has any from 2 to 20. -/
def argLengths (code : Byte) : List Nat :=
  if code ∈ [0x01, 0x03, 0x0A, 0x0B, 0x10, 0x17, 0x1B, 0x1C] then [0]
  else if code ∈ [0x02, 0x04, 0x06, 0x0C, 0x11, 0x15] then [1]
  else if code ∈ [0x05, 0x07, 0x0E, 0x13, 0x18] then [2]
  else if code ∈ [0x14, 0x19, 0x1A] then [3]
  else if code = 0x12 then [4]
  else if code = 0x08 then [13]
  else if code ∈ [0x09, 0x16] then [15]
  else if code = 0x0F then [3, 6]
  else (List.range 21).drop 2

/-- The codes of the commands that Table 8-3 gives to the owner alone. -/
def ownerCodes : List Byte :=
  [0x03, 0x06, 0x08, 0x09, 0x0A, 0x0B, 0x0C, 0x0D, 0x0E, 0x10, 0x12, 0x13, 0x14, 0x16, 0x17, 0x19, 0x1A, 0x1B, 0x1C]

end Sys2Proof
end

