-- ==== Sys2Proof/Certificates/Slice0/Obligations.lean ====
section
/-! DEFINITION. The statements for the provers. OBLIGATIONS.json lists them with the rules of spec/ they formalise. -/

section

open Sys2Proof Sys2Proof.Machine

/-! ## The queue of commands and the running part -/

/-- A step runs the command at the front of the queue with the queue's rest; on an empty queue the running part lets a
millisecond of coupler time pass and a part that does not run stays as it is (the model's choice, log entry 6, DESIGN
CHOICE). -/
def Obligations.StepTakesTheFront : Prop :=
  (∀ (c : Instr) (rest : List Instr) (s : State),
    s.pending = c :: rest → step s = exec c { s with pending := rest }) ∧
  (∀ s : State, s.pending = [] → s.phase = .running → step s = .next { s with now := s.now + 1 }) ∧
  ∀ s : State, s.pending = [] → s.phase ≠ .running → step s = .next s

/-- Every command the bus can carry completes in every state and leaves the waiting commands alone, and a command it
cannot carry is the model's one fault (the model's choice, log entry 20, DESIGN CHOICE): no row ends a run on ordinary
data. -/
def Obligations.CommandsCompleteAndKeepTheQueue : Prop :=
  ∀ (c : Instr) (s : State),
    (c.wellFormed = true → ∃ t, exec c s = .next t ∧ t.pending = s.pending) ∧
      (c.wellFormed = false → exec c s = .fault .illFormed)

/-- While the part is held, unpowered or STARTING, no event of any block is taken: every row but the four of power,
reset and start-up leaves every field as it is (R190, R192); and from a part that does not run with ISOL low, no
attempt, no queued frame, no report and no write, a step leads to such a one again. What the volatile blocks hold in
such a part is the model's choice (log entry 11, DESIGN CHOICE). -/
def Obligations.NothingIsTakenWhileNotRunning : Prop :=
  (∀ (c : Instr) (s : State),
    s.phase ≠ .running → c.isPowerEvent = false → c.wellFormed = true → exec c s = .next s) ∧
  ∀ s t : State, s.HeldOk → step s = .next t → t.HeldOk

/-! ## Reset, power and start-up -/

/-- RST_N_LOW and POWER_LOSS end every attempt and write in progress without an outcome and leave both slots as they
were: the target of a write that stops was made DAMAGED when the write began (R189, R190). ISOL is low while RST_N is
low (R190); that it is low without power, and that the queues are empty in a part that does not run, is the model's
choice (log entry 11, DESIGN CHOICE). -/
def Obligations.ResetAndPowerLossHoldThePart : Prop :=
  ∀ s : State,
    ∃ t u, exec .rstNLow s = .next t ∧ exec .powerLoss s = .next u ∧ t.phase = .held ∧ u.phase = .unpowered ∧
      ∀ v, v = t ∨ v = u →
        v.trip.isol = false ∧ v.ports.a.attempt = none ∧ v.ports.b.attempt = none ∧ v.queues.frames.a = [] ∧
          v.queues.frames.b = [] ∧ v.image.store = none ∧ v.image.slot0 = s.image.slot0 ∧
          v.image.slot1 = s.image.slot1 ∧ v.pending = s.pending

/-- START_UP gives each slot its state and loads the newest VALID image: its bank, parameters, enables and trip
configuration, and IMAGE_FALLBACK is to be set just when the other slot is DAMAGED (R190 steps 2 to 4). Of two VALID
slots, slot 1 is newest when its sequence is newer, else slot 0 (R186). -/
def Obligations.StartUpLoadsTheNewestImage : Prop :=
  ∀ (strap : BitVec 4) (fm c0 c1 : Bool) (s : State) (x : ImageStore) (i : SlotId) (img : Image),
    x.slot0 = s.image.slot0.examined c0 → x.slot1 = s.image.slot1.examined c1 → (x.slot i).image = some img →
    (∀ other, (x.slot i.other).image = some other →
      match i with
      | .one => 1 ≤ (img.seq - other.seq).toNat ∧ (img.seq - other.seq).toNat ≤ 2147483647
      | .zero => ¬(1 ≤ (other.seq - img.seq).toNat ∧ (other.seq - img.seq).toNat ≤ 2147483647)) →
    ∃ t, exec (.startUp strap fm c0 c1) s = .next t ∧ t.phase = .starting ∧ t.image.slot0 = x.slot0 ∧
      t.image.slot1 = x.slot1 ∧ t.banks.active = img.bank ∧ t.agent.params = img.params ∧
      t.events.enables = img.enables ∧ t.trip.config = img.trip ∧ t.image.loaded = some i ∧ t.image.strap = strap ∧
      t.image.failmodeHigh = fm ∧
      t.image.flagDue = (if (x.slot i.other).state = .damaged then some .imageFallback else none)

/-- A slot is examined as R190 step 3 says: BLANK when its cells are erased, VALID when its format code, its check value
and its valid marker are all there, else DAMAGED; and with no VALID slot START_UP loads the factory state of R191 and
IMAGE_ABSENT is to be set. -/
def Obligations.StartUpWithoutAnImageIsFactory : Prop :=
  (∀ (x : Slot) (check : Bool),
    ((x.examined check).state = .blank ↔ x.cells = none) ∧
      ((x.examined check).state = .valid ↔
        ∃ c, x.cells = some c ∧ c.formatOk = true ∧ c.checkOk = true ∧ check = true ∧ c.marker = true)) ∧
  ∀ (strap : BitVec 4) (fm c0 c1 : Bool) (s : State),
    (s.image.slot0.examined c0).state ≠ .valid → (s.image.slot1.examined c1).state ≠ .valid →
    ∃ t, exec (.startUp strap fm c0 c1) s = .next t ∧ t.phase = .starting ∧
      t.banks.active.entries = Vector.replicate 64 Entry.cleared ∧
      t.banks.active.header =
        { masks := #v[0, 0, 0, 0], defaults := if fm then ⟨.drop, .drop⟩ else ⟨.pass, .pass⟩, mgmtPass := .pass } ∧
      t.agent.params =
        { ownStation := if strap = 15 then 4079 else 4080 + strap.setWidth 12
          start := ⟨true, true⟩
          retryLimit := 3
          autoRecover := 1000
          ceiling := ⟨32, 32⟩
          ageLimits := #v[200, 100, 50, 0]
          originHop := 3
          mgmtClass := 2
          queryTimeout := 40
          reportStation := 4095
          reportSide := .a
          levels := ⟨3, 4, 2, 7⟩ } ∧
      t.events.enables = ⟨0x03FF, 0x007F, 0x007F, 0x001F⟩ ∧
      t.trip.config = { sources := #v[none, none, none, none], required := 0, window := 100 } ∧
      t.image.loaded = none ∧ t.image.flagDue = some .imageAbsent

/-- Whatever it loads, START_UP leaves the rest of the coupler as R192 lists it: shadow copied and CLEAN, every count 0,
queues, records, entries and reports empty, no session, flags clear, sides by their start parameters, the trip unit at
rest with ISOL low. -/
def Obligations.StartUpClearsTheRest : Prop :=
  ∀ (strap : BitVec 4) (fm c0 c1 : Bool) (s : State),
    ∃ t, exec (.startUp strap fm c0 c1) s = .next t ∧ t.banks.shadow = t.banks.active ∧ t.banks.shadowState = .clean ∧
      t.banks.hits = Vector.replicate 64 0 ∧
      (∀ code : Byte, ∀ cs ∈ t.counterSet code, ∀ c ∈ cs, c = 0) ∧
      t.queues.frames = ⟨[], []⟩ ∧ t.queues.free = 48 ∧ t.tags.records = Vector.replicate 48 none ∧ t.proxy.list = [] ∧
      t.agent.session = none ∧ t.events.reports = [] ∧ t.events.nextSeq = 0 ∧ t.events.flags = ⟨0, 0, 0, 0⟩ ∧
      t.image.store = none ∧
      t.ports.a.view = ⟨if t.agent.params.start.a then .active else .off, 0, none, none, false⟩ ∧
      t.ports.b.view = ⟨if t.agent.params.start.b then .active else .off, 0, none, none, false⟩ ∧
      t.trip.state = (if t.trip.config.required = 0 then .disarmed else .watching) ∧ t.trip.asserted = 0 ∧
      t.trip.deadline = none ∧ t.trip.last = none ∧ t.trip.isol = false

/-- A reset or power loss during a STORE spoils the slot being written and no other: the start-up that follows finds it
DAMAGED, and loads the other slot, with IMAGE_FALLBACK to be set, when that one is VALID and still checks (R189). -/
def Obligations.ACutWriteIsFoundDamaged : Prop :=
  ∀ (strap : BitVec 4) (fm c0 c1 : Bool) (s : State) (x : Storing) (cut : Instr),
    s.image.store = some x → s.image.slot x.target = Slot.written x.snapshot → cut = .rstNLow ∨ cut = .powerLoss →
    ∃ u t, exec cut s = .next u ∧ exec (.startUp strap fm c0 c1) u = .next t ∧
      (t.image.slot x.target).state = .damaged ∧ t.image.store = none ∧
      ∀ img, s.image.slot x.target.other = Slot.verified img → c0 = true → c1 = true →
        t.image.loaded = some x.target.other ∧ t.banks.active = img.bank ∧ t.image.flagDue = some .imageFallback

/-- STARTING_END starts coupler time at 0 in the running part and sets the image flag that is due; a frame in progress
on a segment at that moment is one its port will not receive (R114; log entry 22, DEDUCED); the banks, records,
entries, trip unit, agent and slots, and everything else of the ports, stay as start-up left them (R192). -/
def Obligations.StartingEndSetsTheImageFlag : Prop :=
  ∀ (busyA busyB : Bool) (s : State), s.phase = .starting →
    ∃ t, exec (.startingEnd busyA busyB) s = .next t ∧ t.phase = .running ∧ t.now = 0 ∧
      (∀ f, s.image.flagDue = some f → t.events.has f = true) ∧ t.image = { s.image with flagDue := none } ∧
      t.ports = ⟨{ s.ports.a with awaitsStart := busyA }, { s.ports.b with awaitsStart := busyB }⟩ ∧
      t.banks = s.banks ∧ t.tags = s.tags ∧ t.proxy = s.proxy ∧ t.trip = s.trip ∧ t.agent = s.agent ∧
      (s.Unreported → s.Leaves t s.image.flagDue.toList)

/-! ## Reception and classification -/

/-- A frame that was in progress when STARTING ended is not received, and the port receives from the next frame on
(R114). That it is the first frame to end at that port, and that nothing is answered and nothing counted for it
whatever the line carried and whatever the side state, at an OFF side too, is the model's inference (log entry 22,
DEDUCED). Any other reception that ends while the side is OFF is discarded without verification: counted, not
acknowledged, and nothing else changes (R98). A bad frame at a side that is not OFF is counted, not acknowledged, sets
S_BAD_FRAME and reaches neither the classifier nor the agent (R97). -/
def Obligations.PortsDiscardWhatTheyMayNotTake : Prop :=
  (∀ (side : Side) (bytes : List Byte) (s : State), s.phase = .running → s.Quiet →
    ((s.ports.get side).awaitsStart = true →
      exec (.reception side bytes) s =
        .next
          { s with ports := s.ports.modify side fun p => { p with acknowledged := false, awaitsStart := false } }) ∧
    ((s.ports.get side).awaitsStart = false → (s.ports.get side).state = .off →
      exec (.reception side bytes) s =
        .next
          { s with
            ports := s.ports.modify side fun p =>
              { p with
                acknowledged := false
                counters := { p.counters with receivedWhileOff := bump p.counters.receivedWhileOff } } })) ∧
  ∀ (side : Side) (bytes : List Byte) (s : State), s.Receives side → readFrame bytes = none →
    ∃ t, exec (.reception side bytes) s = .next t ∧ t.steady = s.steady ∧ t.banks = s.banks ∧ t.agent = s.agent ∧
      t.ports = s.ports.modify side (fun p =>
        { p with
          acknowledged := false
          counters := { p.counters with badFrame := bump p.counters.badFrame } }) ∧
      t.events.has (.badFrame side) = true ∧
      (s.Unreported → t.queues = s.queues ∧ t.events = s.events.mark (.badFrame side))

/-- A frame of unknown kind, or a QUERY with a payload or with Reply set, is dropped as *malformed* in every trip state
(R16); while TRIPPED every other DATA and QUERY frame is dropped as *isolated* before matching (R17). Nothing else
changes. -/
def Obligations.MalformedAndGatedFramesAreDropped : Prop :=
  ∀ (side : Side) (f : Frame) (s : State), s.Receives side → s.Quiet → f.payload.length ≤ Config.payload →
    (f.body = .unknown →
      exec (.reception side f.bytes) s =
        .next ((s.heard side).countClassifier side fun c => { c with malformed := bump c.malformed })) ∧
    (∀ reply tag, f.body = .query reply tag → reply = true ∨ f.payload ≠ [] →
      exec (.reception side f.bytes) s =
        .next ((s.heard side).countClassifier side fun c =>
          { c with queryTaken := bump c.queryTaken, malformed := bump c.malformed })) ∧
    (∀ tag, f.body = .query false tag → f.payload = [] → s.trip.state = .tripped →
      exec (.reception side f.bytes) s =
        .next ((s.heard side).countClassifier side fun c =>
          { c with queryTaken := bump c.queryTaken, isolated := bump c.isolated })) ∧
    (∀ reply tag, f.body = .data reply tag → s.trip.state = .tripped →
      exec (.reception side f.bytes) s =
        .next ((s.heard side).countClassifier side fun c =>
          { c with dataTaken := bump c.dataTaken, isolated := bump c.isolated }))

/-- The match scan: the winner is the lowest index whose entry is in use, includes the side and the kind, and matches
the tag (all 20 bits under EXACT, the mask's bits under MASKn, any tag under ANY); there is none just when no entry
does (R4, R13). -/
def Obligations.TheLowestMatchingEntryWins : Prop :=
  ∀ (b : Bank) (side : Side) (query : Bool) (t : Tag),
    (∀ i, b.winner side query t = some i ↔
      (b.entries[i]).Claims b.header side query t ∧ ∀ j < i, ¬(b.entries[j]).Claims b.header side query t) ∧
    (b.winner side query t = none ↔ ∀ i : Fin 64, ¬(b.entries[i]).Claims b.header side query t)

/-- A DATA or QUERY frame that wins an entry counts its hit, a DATA reply having first settled its query. DROP drops
it as *table*. Under PASS or REWRITE without filter it crosses: its hop less one, the class setting and the rewrite
applied, Reply and payload kept. Under PROXY or a change filter a DATA frame goes through its record, found or
allocated: one that does not pass is absorbed as *repeat* or *unsettled*, one that passes crosses, PROXY renews the
freshness of all but the unsettled, and with no record to be had it passes with TAG_MEMORY_FULL set. Hop 0 after the
match drops it as *hop-expired* (R14, R19 to R22, R24 to R26, R37, R46). A settling reply that wins an entry other than
PROXY leaves its record as the settlement left it (R62); that the lookup sets its last use, and that the filter still
decides whether the reply passes, is the model's inference (log entry 24, DEDUCED). -/
def Obligations.MatchedFramesCrossOrStop : Prop :=
  ∀ (side : Side) (f : Frame) (query reply : Bool) (tag : Tag) (i : Fin 64) (e : Entry) (s heard : State),
    s.Receives side → s.Quiet → f.payload.length ≤ Config.payload →
    f.body = (if query then .query false tag else .data reply tag) → (query = true → f.payload = []) →
    s.trip.state ≠ .tripped → s.banks.active.winner side query tag = some i → e = s.banks.active.entries[i] →
    (query = false → e.trip = none) →
    heard = ((s.heard side).countClassifier side fun c =>
      if query then { c with queryTaken := bump c.queryTaken } else { c with dataTaken := bump c.dataTaken }) →
    let taken := (if query = false ∧ reply = true then heard.settleReply side tag else heard).hit i
    let settled : Prop := reply = true ∧ ∃ q ∈ s.proxy.list, q.key = (side, tag)
    let onward : Frame :=
      { body :=
          if query then .query false (if e.action = .rewrite then
            if e.keepItem then e.rewriteTag.extractLsb' 14 6 ++ tag.extractLsb' 0 14 else e.rewriteTag else tag)
          else .data reply (if e.action = .rewrite then
            if e.keepItem then e.rewriteTag.extractLsb' 14 6 ++ tag.extractLsb' 0 14 else e.rewriteTag else tag)
        cls := e.setClass.getD f.cls
        hop := f.hop - 1
        payload := f.payload }
    let crossed : State → State := fun u =>
      (u.countClassifier side fun c => { c with forwarded := bump c.forwarded }).enqueue side.far onward
    let plain : Prop := e.action = .pass ∧ (query = false → e.filter = .none) ∨
      e.action = .rewrite ∧ (query = false → e.filter = .none)
    let filtered : Prop := query = false ∧ e.action ≠ .drop ∧ (e.action = .proxy ∨ e.filter ≠ .none)
    (e.action = .drop →
      exec (.reception side f.bytes) s =
        .next (taken.countClassifier side fun c => { c with table := bump c.table })) ∧
    (plain → f.hop ≠ 0 → s.Room side.far → exec (.reception side f.bytes) s = .next (crossed taken)) ∧
    (plain → f.hop = 0 →
      let dropped := taken.countClassifier side fun c => { c with hopExpired := bump c.hopExpired }
      ∃ t, exec (.reception side f.bytes) s = .next t ∧ t.steady = dropped.steady ∧ t.banks = dropped.banks ∧
        t.events.has .hopExpired = true ∧ (s.Unreported → dropped.Leaves t [.hopExpired])) ∧
    (filtered → ∀ (k : Fin 48) (tags : TagMemory) (r r1 : Record) (v : Verdict),
      taken.tags.find side tag = some k ∧ tags = taken.tags ∨
        taken.tags.find side tag = none ∧ taken.tags.allocate side tag s.now = (tags, some k) →
      tags.records[k] = some r →
      ({ r with lastUse := s.now } : Record).filtered e.filter e.window f.payload s.now = (r1, v) →
      let kept := { taken with
        tags :=
          { tags with
            records :=
              tags.records.set k
                (some
                  (if e.action = .proxy ∧ v ≠ .unsettled then
                    { r1 with freshness := .fresh, freshUntil := s.now + e.freshness.setWidth 32 }
                  else if e.action ≠ .proxy ∧ settled then
                    { r with lastUse := s.now }
                  else r1)) } }
      (v = .pass → f.hop ≠ 0 → s.Room side.far → exec (.reception side f.bytes) s = .next (crossed kept)) ∧
      (v = .pass → f.hop = 0 →
        let dropped := kept.countClassifier side fun c => { c with hopExpired := bump c.hopExpired }
        ∃ t, exec (.reception side f.bytes) s = .next t ∧ t.steady = dropped.steady ∧ t.banks = dropped.banks ∧
          t.events.has .hopExpired = true ∧ (s.Unreported → dropped.Leaves t [.hopExpired])) ∧
      (v = .repeated →
        exec (.reception side f.bytes) s =
          .next (kept.countClassifier side fun c => { c with repeated := bump c.repeated })) ∧
      (v = .unsettled →
        exec (.reception side f.bytes) s =
          .next (kept.countClassifier side fun c => { c with unsettled := bump c.unsettled }))) ∧
    (filtered → ∀ tags : TagMemory, taken.tags.find side tag = none →
      taken.tags.allocate side tag s.now = (tags, none) → f.hop ≠ 0 →
      ∃ t, exec (.reception side f.bytes) s = .next t ∧ t.steady = { taken with tags := tags }.steady ∧
        t.events.has .tagMemoryFull = true ∧
        (s.Unreported → s.Room side.far → (crossed { taken with tags := tags }).Leaves t [.tagMemoryFull]))

/-- A DATA or QUERY frame that no entry claims is counted *unmatched* and on no entry, a DATA reply having first
settled its query (R18): default DROP drops it as *default*, default PASS passes it across with its class, tag and
Reply kept and its hop less one, and hop 0 drops it as *hop-expired* with HOP_EXPIRED set (R11, R19, R24). -/
def Obligations.UnmatchedFramesTakeTheDefault : Prop :=
  ∀ (side : Side) (query reply : Bool) (tag : Tag) (f : Frame) (s : State),
    s.Receives side → s.Quiet → f.payload.length ≤ Config.payload → (query = true → f.payload = []) →
    f.body = (if query then .query false tag else .data reply tag) → s.trip.state ≠ .tripped →
    s.banks.active.winner side query tag = none →
    let counted := (s.heard side).countClassifier side fun c =>
      if query then { c with queryTaken := bump c.queryTaken, unmatched := bump c.unmatched }
      else { c with dataTaken := bump c.dataTaken, unmatched := bump c.unmatched }
    let taken := if query = false ∧ reply = true then counted.settleReply side tag else counted
    (s.banks.active.header.defaults.get side = .drop →
      exec (.reception side f.bytes) s =
        .next (taken.countClassifier side fun c => { c with default := bump c.default })) ∧
    (s.banks.active.header.defaults.get side = .pass → f.hop ≠ 0 → s.Room side.far →
      exec (.reception side f.bytes) s =
        .next
          ((taken.countClassifier side fun c => { c with forwarded := bump c.forwarded }).enqueue side.far
            { f with hop := f.hop - 1 })) ∧
    (s.banks.active.header.defaults.get side = .pass → f.hop = 0 →
      ∃ t, exec (.reception side f.bytes) s = .next t ∧ t.steady = taken.steady ∧ t.events.has .hopExpired = true ∧
        t.banks = (taken.countClassifier side fun c => { c with hopExpired := bump c.hopExpired }).banks ∧
        (s.Unreported →
          (taken.countClassifier side fun c => { c with hopExpired := bump c.hopExpired }).Leaves t [.hopExpired]))

/-- A MGMT frame with source 0, 4095 or OWN_STATION or destination 4095 is dropped as *bad-address* (R27). One for
another station is dropped as *management*, or, under management-pass PASS, crosses with its hop less one, and hop 0
drops it as *hop-expired* with HOP_EXPIRED set (R24, R30). A broadcast IDENTIFY is answered whatever that setting
(R29): under DROP it goes no further, under PASS its frame also crosses, here with room for both, or with hop 0 is
dropped as *hop-expired*; that the answer is admitted before the copy, and that the bits of its bytes that stand for
nothing are 0, is the model's choice (log entries 4 and 23, DESIGN CHOICE). -/
def Obligations.ManagementFramesAreRouted : Prop :=
  (∀ (side : Side) (f : Frame) (reply : Bool) (dst src : Station) (s : State),
    s.Receives side → s.Quiet → f.payload.length ≤ Config.payload → f.body = .mgmt reply dst src →
    (src = 0 ∨ src = 4095 ∨ src = s.agent.params.ownStation ∨ dst = 4095 →
      exec (.reception side f.bytes) s =
        .next ((s.heard side).countClassifier side fun c => { c with badAddress := bump c.badAddress })) ∧
    (src ≠ 0 → src ≠ 4095 → src ≠ s.agent.params.ownStation → dst ≠ 4095 → dst ≠ 0 →
      dst ≠ s.agent.params.ownStation →
      (s.banks.active.header.mgmtPass = .drop →
        exec (.reception side f.bytes) s =
          .next ((s.heard side).countClassifier side fun c =>
            { c with mgmtTaken := bump c.mgmtTaken, management := bump c.management })) ∧
      (s.banks.active.header.mgmtPass = .pass → f.hop ≠ 0 → s.Room side.far →
        exec (.reception side f.bytes) s =
          .next
            (((s.heard side).countClassifier side fun c =>
              { c with mgmtTaken := bump c.mgmtTaken, forwarded := bump c.forwarded }).enqueue side.far
              { f with hop := f.hop - 1 })) ∧
      (s.banks.active.header.mgmtPass = .pass → f.hop = 0 →
        let dropped := (s.heard side).countClassifier side fun c =>
          { c with mgmtTaken := bump c.mgmtTaken, hopExpired := bump c.hopExpired }
        ∃ t, exec (.reception side f.bytes) s = .next t ∧ t.steady = s.steady ∧ t.banks = dropped.banks ∧
          t.events.has .hopExpired = true ∧ (s.Unreported → dropped.Leaves t [.hopExpired])))) ∧
  ∀ (m : Arrival) (seq : Byte) (s : State), s.Hears m → s.Quiet → s.Room m.side → s.agent.params.ownStation ≠ 0 →
    let answered := (s.delivered m).queueResponse m ⟨seq, 0x01, .ok, s.identity⟩
    (s.banks.active.header.mgmtPass = .drop →
      exec (.identify m true seq []) s =
        .next (answered.countClassifier m.side fun c => { c with management := bump c.management })) ∧
    (s.banks.active.header.mgmtPass = .pass → m.hop ≠ 0 → answered.Room m.side.far →
      exec (.identify m true seq []) s =
        .next
          ((answered.countClassifier m.side fun c => { c with forwarded := bump c.forwarded }).enqueue m.side.far
            { body := .mgmt m.reply 0 m.source, cls := m.cls, hop := m.hop - 1, payload := [0x00, seq, 0x01, 0x00] })) ∧
    (s.banks.active.header.mgmtPass = .pass → m.hop = 0 →
      let dropped := answered.countClassifier m.side fun c => { c with hopExpired := bump c.hopExpired }
      ∃ t, exec (.identify m true seq []) s = .next t ∧ t.steady = s.steady ∧ t.banks = dropped.banks ∧
        t.agent = dropped.agent ∧ t.events.has .hopExpired = true ∧ (s.Unreported → dropped.Leaves t [.hopExpired]))

/-! ## Tag memory and query proxy -/

/-- NONE passes every payload (R41); REPEAT absorbs a payload equal to the held value less than the window after it
was last forwarded and passes every other (R42); SETTLE2 and SETTLE3 pass the held value, count the consecutive
sightings of another, and pass it on the second or third (R43, R44). A payload passed becomes the held value and was
last forwarded now, and the candidate is absent (R45). -/
def Obligations.ChangeFilters : Prop :=
  (∀ (r : Record) (w : BitVec 16) (p : Payload) (now : CTime),
    r.filtered .none w p now =
      ({ r with held := some p, lastForwarded := some now, candidate := none, candidateCount := 0 }, .pass)) ∧
  (∀ (r : Record) (w : BitVec 16) (p : Payload) (now : CTime),
    ((r.held = some p ∧ ∃ t, r.lastForwarded = some t ∧ (now - t).toNat < w.toNat) →
      r.filtered .repeated w p now = (r, .repeated)) ∧
    ((¬(r.held = some p ∧ ∃ t, r.lastForwarded = some t ∧ (now - t).toNat < w.toNat)) →
      r.filtered .repeated w p now =
        ({ r with held := some p, lastForwarded := some now, candidate := none, candidateCount := 0 }, .pass))) ∧
  ∀ (r : Record) (n : Nat) (filter : Filter) (w : BitVec 16) (p : Payload) (now : CTime),
    (filter = .settle2 ∧ n = 2) ∨ (filter = .settle3 ∧ n = 3) →
    (r.held = some p →
      r.filtered filter w p now =
        ({ r with lastForwarded := some now, candidate := none, candidateCount := 0 }, .pass)) ∧
    (r.held ≠ some p → r.candidate = some p → n ≤ r.candidateCount + 1 →
      r.filtered filter w p now =
        ({ r with held := some p, lastForwarded := some now, candidate := none, candidateCount := 0 }, .pass)) ∧
    (r.held ≠ some p → r.candidate = some p → r.candidateCount + 1 < n →
      r.filtered filter w p now = ({ r with candidateCount := r.candidateCount + 1 }, .unsettled)) ∧
    (r.held ≠ some p → r.candidate ≠ some p →
      r.filtered filter w p now = ({ r with candidate := some p, candidateCount := 1 }, .unsettled))

/-- Allocation takes the lowest-numbered free record, else the unbound record of greatest age, the lowest-numbered among
equals, and none when all are bound; the record taken starts from nothing, and the allocation, the replacement or the
refusal is counted (R36 to R38). -/
def Obligations.AllocationTakesTheOldestUnboundRecord : Prop :=
  ∀ (t t' : TagMemory) (origin : Side) (tag : Tag) (now : CTime),
    (∀ i, t.allocate origin tag now = (t', some i) →
      t'.records =
        t.records.set i
          (some
            { origin := origin, tag := tag, held := none, freshness := .none, freshUntil := 0, lastForwarded := none,
              candidate := none, candidateCount := 0, lastUse := now, bound := false }) ∧
      ((t.records[i] = none ∧ (∀ j < i, (t.records[j]).isSome = true) ∧
          t'.counters = { t.counters with allocations := bump t.counters.allocations }) ∨
        ((∀ j : Fin 48, (t.records[j]).isSome = true) ∧
          t'.counters =
            { t.counters with
              allocations := bump t.counters.allocations
              replacements := bump t.counters.replacements } ∧
          ∃ r, t.records[i] = some r ∧ r.bound = false ∧
            ∀ (j : Fin 48) (x : Record), t.records[j] = some x → x.bound = false →
              (now - x.lastUse).toNat < (now - r.lastUse).toNat ∨
                ((now - x.lastUse).toNat = (now - r.lastUse).toNat ∧ i ≤ j)))) ∧
    (t.allocate origin tag now = (t', none) →
      t' = { t with counters := { t.counters with memoryFull := bump t.counters.memoryFull } } ∧
        ∀ j : Fin 48, ∃ x, t.records[j] = some x ∧ x.bound = true)

/-- FRESHNESS_DEADLINE turns a FRESH record whose deadline is reached STALE, counts the expiry and changes nothing else
(R47). QUERY_ENTRY_DEADLINE removes the entry, unbinds its record, counts *timeout* under the asking side and sets
QUERY_TIMEOUT (R63). FLUSH_RECORDS from the owner frees every held record that is not bound, counts and answers their
number and that of the records still held (R48). None changes anything else of the steady part but the session. -/
def Obligations.RecordsExpireAndAreFlushed : Prop :=
  (∀ (i : Fin 48) (r : Record) (s : State), s.phase = .running → s.Quiet → s.tags.records[i] = some r →
    r.freshness = .fresh → reached s.now r.freshUntil = true →
    exec (.freshnessDeadline i) s =
      .next
        { s with
          tags :=
            { records := s.tags.records.set i (some { r with freshness := .stale })
              counters := { s.tags.counters with expiries := bump s.tags.counters.expiries } } }) ∧
  (∀ (place : Nat) (q : QueryEntry) (r : Record) (s : State), s.phase = .running → s.BindingsOk →
    s.proxy.list[place]? = some q → s.tags.records[q.record] = some r → reached s.now q.deadline = true →
    ∃ t, exec (.queryEntryDeadline place) s = .next t ∧ t.events.has .queryTimeout = true ∧
      (s.Unreported → s.Leaves t [.queryTimeout]) ∧
      t.steady =
        { s.steady with
          tags := { s.tags with records := s.tags.records.set q.record (some { r with bound := false }) }
          proxy :=
            { list := s.proxy.list.eraseIdx place
              counters := s.proxy.counters.modify q.target.far fun c => { c with timeout := bump c.timeout } } }) ∧
  ∀ (m : Arrival) (seq : Byte) (x : Session) (s : State) (freed : Nat), s.HearsOwner m seq x →
    freed = s.tags.records.toList.countP (fun o => o.isSome && !(o.elim true Record.bound)) →
    let r : Response := ⟨seq, 0x10, .ok,
      [countByte freed, countByte (s.tags.records.toList.countP Option.isSome - freed)]⟩
    ∃ t records, exec (.flushRecords m seq []) s = .next t ∧ s.AnswersOnly t m r [] ∧
      (∀ (i : Fin 48) (r : Record), records[i] = some r ↔ s.tags.records[i] = some r ∧ r.bound = true) ∧
      t.steady =
        { s.steady with
          tags :=
            { records := records
              counters := { s.tags.counters with flushed := satAdd s.tags.counters.flushed freed } }
          session := some (x.answered s.now m.side r) }

/-- From a FRESH record the proxy answers: a DATA frame with Reply set, the held value, the query's class and ORIGIN_HOP
stands in the asking side's queue; the record's last use is set and the list stays (R55, R56). So ends the reception of
a QUERY that wins a PROXY entry, with the entry's class setting applied; toward a SILENT side the answer is refused and
counted so. A reply removes the entry of its tag and ingress side, unbinds its record and counts *settled* under the
asking side; without such an entry it changes nothing (R61). -/
def Obligations.FreshRecordsAnswerAndRepliesSettle : Prop :=
  (∀ (side : Side) (tag : Tag) (hop : Hop) (cls : FClass) (i : Fin 48) (r : Record) (v : Payload) (s : State),
    s.tags.find side.far tag = some i → s.tags.records[i] = some r → r.freshness = .fresh → r.held = some v →
    s.trip.state ≠ .tripped → s.Room side →
    s.proxyStep side tag hop cls =
      (({ s with
          tags := { s.tags with records := s.tags.records.set i (some { r with lastUse := s.now }) } }.enqueue side
          { body := .data true tag, cls := cls, hop := s.agent.params.originHop, payload := v }).countProxy side
        fun c => { c with answered := bump c.answered }, .answered)) ∧
  (∀ (side : Side) (f : Frame) (tag : Tag) (i : Fin 64) (e : Entry) (k : Fin 48) (r : Record) (v : Payload) (s : State),
    s.Receives side → s.Quiet → f.body = .query false tag → f.payload = [] → s.trip.state ≠ .tripped →
    s.banks.active.winner side true tag = some i → e = s.banks.active.entries[i] → e.action = .proxy →
    s.tags.find side.far tag = some k → s.tags.records[k] = some r → r.freshness = .fresh → r.held = some v →
    let taken := { ((s.heard side).countClassifier side fun c =>
        { c with queryTaken := bump c.queryTaken }).hit i with
      tags := { s.tags with records := s.tags.records.set k (some { r with lastUse := s.now }) } }
    (s.Room side →
      exec (.reception side f.bytes) s =
        .next
          ((taken.enqueue side
              { body := .data true tag
                cls := e.setClass.getD f.cls
                hop := s.agent.params.originHop
                payload := v }).countProxy side
            fun c => { c with answered := bump c.answered })) ∧
    ((s.ports.get side).state = .silent →
      exec (.reception side f.bytes) s =
        .next
          ((taken.countQueue side fun c => { c with notAccepting := bump c.notAccepting }).countProxy side fun c =>
            { c with answered := bump c.answered, answerRefused := bump c.answerRefused }))) ∧
  (∀ (side : Side) (tag : Tag) (q : QueryEntry) (r : Record) (s : State), s.proxy.find side tag = some q →
    s.tags.records[q.record] = some r →
    s.settleReply side tag =
      { s with
        proxy :=
          { list := s.proxy.list.erase q
            counters := s.proxy.counters.modify side.far fun c => { c with settled := bump c.settled } }
        tags := { s.tags with records := s.tags.records.set q.record (some { r with bound := false }) } }) ∧
  ∀ (side : Side) (tag : Tag) (s : State), (∀ q ∈ s.proxy.list, q.key ≠ (side, tag)) → s.settleReply side tag = s

/-- Without a FRESH record the proxy decides by rows 2 to 6 of Table 3-2: a query of a key in the list is coalesced
whatever its hop; hop 0 is untracked; a full list leaves it untracked with QUERY_UNTRACKED set and no record allocated;
no record to be had leaves it untracked with TAG_MEMORY_FULL and QUERY_UNTRACKED set; otherwise an entry bound to the
record found or allocated is added at the list's end (R54, R57 to R59). A lookup that finds the record sets its last
use (R35), and nothing else changes. At its reception a coalesced QUERY ends there, any other goes on to the hop test
and the far side's queue with the class setting applied, and a tracked one refused there is withdrawn (R23, R60). -/
def Obligations.QueriesCoalesceOrAreTracked : Prop :=
  (∀ (side : Side) (tag : Tag) (hop : Hop) (cls : FClass) (looked : TagMemory) (s : State),
    (∀ i ∈ s.tags.find side.far tag, ∀ r ∈ s.tags.records[i], r.freshness ≠ .fresh) →
    (∀ i ∈ s.tags.find side.far tag, looked = { s.tags with
      records := s.tags.records.set i ((s.tags.records[i]).map fun r => { r with lastUse := s.now }) }) →
    (s.tags.find side.far tag = none → looked = s.tags) →
    let counted : (ProxyCounters → ProxyCounters) → PerSide ProxyCounters := fun g => s.proxy.counters.modify side g
    ((∃ q ∈ s.proxy.list, q.key = (side.far, tag)) →
      s.proxyStep side tag hop cls =
        ({ s with
            tags := looked
            proxy :=
              { list := s.proxy.list.map fun q =>
                  if q.key = (side.far, tag) then { q with coalesced := min (q.coalesced + 1) 255 } else q
                counters := counted fun c => { c with coalesced := bump c.coalesced } } }, .coalesced)) ∧
    ((∀ q ∈ s.proxy.list, q.key ≠ (side.far, tag)) →
      (hop = 0 → s.proxyStep side tag hop cls = ({ s with tags := looked }, .untracked)) ∧
      (hop ≠ 0 → 16 ≤ s.proxy.list.length →
        s.proxyStep side tag hop cls =
          ({ s with
              tags := looked
              proxy := { s.proxy with counters := counted fun c => { c with untracked := bump c.untracked } }
              events := s.events.setFlag s.agent.params s.now .queryUntracked }, .untracked)) ∧
      (hop ≠ 0 → s.proxy.list.length < 16 → ∀ t' : TagMemory, s.tags.find side.far tag = none →
        s.tags.allocate side.far tag s.now = (t', none) →
        s.proxyStep side tag hop cls =
          ({ s with
              tags := t'
              proxy := { s.proxy with counters := counted fun c => { c with untracked := bump c.untracked } }
              events :=
                (s.events.setFlag s.agent.params s.now .tagMemoryFull).setFlag s.agent.params s.now .queryUntracked },
            .untracked)) ∧
      (hop ≠ 0 → s.proxy.list.length < 16 → ∀ (i : Fin 48) (t' : TagMemory) (r : Record),
        s.tags.find side.far tag = some i ∧ t' = s.tags ∨
          s.tags.find side.far tag = none ∧ s.tags.allocate side.far tag s.now = (t', some i) →
        t'.records[i] = some r →
        s.proxyStep side tag hop cls =
          ({ s with
              tags := { t' with records := t'.records.set i (some { r with lastUse := s.now, bound := true }) }
              proxy :=
                { list := s.proxy.list ++
                    [{ tag := tag, target := side.far, deadline := s.now + s.agent.params.queryTimeout.setWidth 32,
                       coalesced := 1, cls := cls, record := i }]
                  counters := counted fun c => { c with tracked := bump c.tracked } } }, .tracked)))) ∧
  ∀ (side : Side) (f : Frame) (tag : Tag) (i : Fin 64) (e : Entry) (taken asked : State) (result : ProxyResult)
      (s : State),
    s.Receives side → s.Quiet → f.body = .query false tag → f.payload = [] → s.trip.state ≠ .tripped →
    s.banks.active.winner side true tag = some i → e = s.banks.active.entries[i] → e.action = .proxy →
    taken = ((s.heard side).countClassifier side fun c => { c with queryTaken := bump c.queryTaken }).hit i →
    taken.proxyStep side tag f.hop (e.setClass.getD f.cls) = (asked, result) →
    let counted := asked.countClassifier side fun c => { c with forwarded := bump c.forwarded }
    let dropped := asked.countClassifier side fun c => { c with hopExpired := bump c.hopExpired }
    let onward : Frame :=
      { body := .query false tag, cls := e.setClass.getD f.cls, hop := f.hop - 1, payload := [] }
    (result = .coalesced → exec (.reception side f.bytes) s = .next asked) ∧
    (result = .untracked → f.hop = 0 →
      ∃ t, exec (.reception side f.bytes) s = .next t ∧ t.steady = dropped.steady ∧ t.banks = dropped.banks ∧
        t.events.has .hopExpired = true ∧ (s.Unreported → dropped.Leaves t [.hopExpired])) ∧
    (result = .untracked → f.hop ≠ 0 → s.Unreported → s.Room side.far →
      exec (.reception side f.bytes) s = .next (counted.enqueue side.far onward)) ∧
    (result = .tracked → s.Room side.far →
      exec (.reception side f.bytes) s = .next (counted.enqueue side.far onward)) ∧
    (result = .tracked →
      ∀ (u : State) (why : AdmissionRefusal) (k : Fin 48) (t' : TagMemory) (r : Record),
        counted.admitFrame side.far onward = (u, .refused why) → u.Quiet →
        s.tags.find side.far tag = some k ∧ t' = s.tags ∨
          s.tags.find side.far tag = none ∧ s.tags.allocate side.far tag s.now = (t', some k) →
        t'.records[k] = some r →
        exec (.reception side f.bytes) s =
          .next
            { u with
              tags := { t' with records := t'.records.set k (some { r with lastUse := s.now, bound := false }) }
              proxy :=
                { list := s.proxy.list
                  counters := s.proxy.counters.modify side fun c =>
                    { c with tracked := bump c.tracked, withdrawn := bump c.withdrawn } } })

/-! ## Admission and the queues -/

/-- Admission decides by the tests of Table 4-2 in their order: *not-accepting*, *isolated*, queued where there is room,
queued with the displacement of the most recent off-line frame of the lowest class below the arriving one's, else
*pool-full* with POOL_FULL set or *ceiling* (R75 to R77). -/
def Obligations.AdmissionDecides : Prop :=
  ∀ (side : Side) (f : Frame) (s : State),
    let q := s.queues.frames.get side
    let full := ¬(q.length < s.agent.params.ceiling.get side ∧
      s.queues.frames.a.length + s.queues.frames.b.length < 48)
    let x : QFrame := { frame := f, queueTime := s.now, ageDeadline := s.agent.params.ageDeadline s.now f.cls,
                        attempts := 0, onLine := false, mark := .none }
    ((s.ports.get side).state.accepts = false →
      s.admitFrame side f =
        (s.countQueue side fun c => { c with notAccepting := bump c.notAccepting }, .refused .notAccepting)) ∧
    ((s.ports.get side).state.accepts = true → s.trip.state = .tripped → f.traffic = true →
      s.admitFrame side f =
        (s.countQueue side fun c => { c with isolatedRefused := bump c.isolatedRefused }, .refused .isolated)) ∧
    ((s.ports.get side).state.accepts = true → s.trip.state ≠ .tripped ∨ f.traffic = false →
      (¬full →
        s.admitFrame side f =
          ((s.onQueue side (insertFrame x)).countQueue side fun c => { c with admitted := bump c.admitted }, .queued)) ∧
      (full → (∀ y ∈ q, y.frame.cls < f.cls → y.onLine = true) →
        (48 ≤ s.queues.frames.a.length + s.queues.frames.b.length →
          s.admitFrame side f =
            ((s.countQueue side fun c => { c with poolFull := bump c.poolFull }).setFlag .poolFull,
              .refused .poolFull)) ∧
        (s.queues.frames.a.length + s.queues.frames.b.length < 48 →
          s.admitFrame side f = (s.countQueue side fun c => { c with ceiling := bump c.ceiling }, .refused .ceiling))) ∧
      (full → ∀ (pre post : List QFrame) (y : QFrame), q = pre ++ y :: post → y.onLine = false →
        y.frame.cls < f.cls → (∀ z ∈ q, z.onLine = false → y.frame.cls ≤ z.frame.cls) →
        (∀ z ∈ post, z.onLine = false → z.frame.cls ≠ y.frame.cls) →
        s.admitFrame side f =
          (((s.onQueue side fun _ => insertFrame x (pre ++ post)).countQueue side fun c =>
              { c with displaced := bump c.displaced, admitted := bump c.admitted }).setFlag .displaced, .queued)))

/-- In a queue ordered by class, a newly admitted frame stands after every frame of its class or higher and before every
one of lower class, and the others keep their order (R72). -/
def Obligations.AdmittedFramesStandByClass : Prop :=
  ∀ (x : QFrame) (q : List QFrame), Ordered q →
    ∃ pre post, q = pre ++ post ∧ insertFrame x q = pre ++ x :: post ∧
      (∀ y ∈ pre, x.frame.cls ≤ y.frame.cls) ∧ ∀ y ∈ post, y.frame.cls < x.frame.cls

/-- AGE_DEADLINE removes a waiting frame as *stale* with STALE_DROP set, and marks one on the line that has no mark
(R83, R85). CANCEL_TAG from the owner removes the waiting DATA and QUERY frames of the tag from the named queues and
marks one on the line, answers with both numbers and leaves records and outstanding queries alone (R86). -/
def Obligations.StaleAndCancelledFramesLeave : Prop :=
  (∀ (side : Side) (place : Nat) (x : QFrame) (s : State), s.phase = .running →
    (s.queues.frames.get side)[place]? = some x → due s.now x.ageDeadline = true →
    (x.onLine = false → s.Unreported →
      exec (.ageDeadline side place) s =
        .next
          { (s.onQueue side fun q => q.eraseIdx place).countQueue side fun c => { c with stale := bump c.stale } with
            events := s.events.mark .staleDrop }) ∧
    (x.onLine = true → s.Quiet →
      exec (.ageDeadline side place) s =
        .next (s.onQueue side fun q =>
          q.set place { x with mark := if x.mark = .none then .stale else x.mark }))) ∧
  ∀ (m : Arrival) (seq h md l sides : Byte) (tag : Tag) (x : Session) (s : State), s.HearsOwner m seq x → s.Quiet →
    s.Room m.side → argTag h md l = some tag → sides = 0 ∨ sides = 1 ∨ sides = 2 →
    let named : Side → Bool := fun sd => sides == 2 || sides == sd.code
    let gone : Side → List QFrame := fun sd =>
      (s.queues.frames.get sd).filter fun y => named sd && y.frame.carries tag && !y.onLine
    let marked : Side → List QFrame := fun sd =>
      (s.queues.frames.get sd).filter fun y => named sd && y.frame.carries tag && y.onLine && y.mark == .none
    let r : Response := ⟨seq, 0x12, .ok, [countByte ((gone .a).length + (gone .b).length),
      countByte ((marked .a).length + (marked .b).length)]⟩
    let kept : Side → List QFrame := fun sd =>
      ((s.queues.frames.get sd).filter fun y => !(named sd && y.frame.carries tag && !y.onLine)).map fun y =>
        if named sd && y.frame.carries tag && y.onLine && y.mark == .none then { y with mark := .cancelled } else y
    let counted : Side → QueueCounters := fun sd =>
      { s.queues.counters.get sd with cancelled := satAdd (s.queues.counters.get sd).cancelled (gone sd).length }
    ∃ t, exec (.cancelTag m seq [h, md, l, sides]) s = .next t ∧
      t.steady = { s.steady with session := some (x.answered s.now m.side r) } ∧
      t.rest =
        ({ s.delivered m with
          queues := { frames := ⟨kept .a, kept .b⟩, counters := ⟨counted .a, counted .b⟩ } }.queueResponse m r).rest

/-! ## The ports -/

/-- TRANSMITTER_SELECTION puts the first frame of an accepting side's queue on the line when none is there: the attempt
holds the frame's bytes with a fresh check and ends its line wait 20 ms on, and attempt-started is counted (R78,
R100). -/
def Obligations.SelectionPutsTheFirstFrameOnTheLine : Prop :=
  ∀ (side : Side) (x : QFrame) (rest : List QFrame) (s : State), s.phase = .running → s.Quiet →
    (s.ports.get side).state.accepts = true → s.queues.frames.get side = x :: rest →
    (∀ y ∈ x :: rest, y.onLine = false) →
    exec (.transmitterSelection side) s =
      .next
        ((s.onQueue side fun _ => { x with onLine := true } :: rest).onPort side fun p =>
          { p with
            attempt := some ⟨x.frame.bytes, s.now + 20⟩
            counters := { p.counters with attemptStarted := bump p.counters.attemptStarted } })

/-- ATTEMPT_COMPLETION with SENT removes the frame, marked or not, and lowers the score by 1, which takes a WARNED side
at 64 or less back to ACTIVE; with LOST an unmarked frame goes back to waiting in its place with its attempt count and
the score unchanged, and a frame with a removal mark leaves, counted under its mark, a stale one with STALE_DROP set
(R79, R80, R85, R102, R105). -/
def Obligations.SentAndLostAttempts : Prop :=
  ∀ (side : Side) (pre post : List QFrame) (x : QFrame) (s : State), s.phase = .running → s.Quiet →
    (s.ports.get side).attempt.isSome = true → (s.ports.get side).state.accepts = true →
    (s.ports.get side).state.fits (s.ports.get side).score → s.queues.frames.get side = pre ++ x :: post →
    x.onLine = true → (∀ y ∈ pre, y.onLine = false) →
    exec (.attemptCompletion side .sent) s =
        .next
          (((s.onQueue side fun _ => pre ++ post).countQueue side fun c => { c with sent := bump c.sent }).onPort side
            fun p =>
              { p with
                state := if p.state = .warned ∧ p.score - 1 ≤ 64 then .active else p.state
                score := p.score - 1
                attempt := none
                counters := { p.counters with sent := bump p.counters.sent } }) ∧
    (x.mark = .none →
      exec (.attemptCompletion side .lost) s =
        .next
          ((s.onQueue side fun _ => pre ++ { x with onLine := false } :: post).onPort side fun p =>
            { p with
              attempt := none
              counters := { p.counters with lost := bump p.counters.lost } })) ∧
    (x.mark ≠ .none → s.Unreported →
      exec (.attemptCompletion side .lost) s =
        .next
          { ((s.onQueue side fun _ => pre ++ post).countQueue side fun c =>
              match x.mark with
              | .none => c
              | .stale => { c with stale := bump c.stale }
              | .cancelled => { c with cancelled := bump c.cancelled }
              | .isolated => { c with isolatedRemoved := bump c.isolatedRemoved }).onPort side fun p =>
              { p with
                attempt := none
                counters := { p.counters with lost := bump p.counters.lost } } with
            events := if x.mark = .stale then s.events.mark .staleDrop else s.events })

/-- NOACK and LINE_ERROR, the latter also by LINE_WAIT_EXPIRY after 20 ms, raise the score by 8 and the attempt count of
an unmarked frame by 1: the frame goes back to waiting, or leaves as *undeliverable* with S_UNDELIVERABLE set once the
count exceeds RETRY_LIMIT. A frame with a removal mark leaves without a retry, counted under its mark, a stale one with
STALE_DROP set. A score of 96 takes an ACTIVE side to WARNED with S_WARNED set (R81, R85, R100, R102, R104). -/
def Obligations.FailedAttempts : Prop :=
  ∀ (side : Side) (outcome : LineOutcome) (row : Instr) (pre post : List QFrame) (x : QFrame) (a : Attempt)
      (s : State),
    s.phase = .running → s.Unreported → (s.ports.get side).attempt = some a →
    (row = .attemptCompletion side .noack ∧ outcome = .noack) ∨
      (row = .attemptCompletion side .lineError ∧ outcome = .lineError) ∨
      (row = .lineWaitExpiry side ∧ outcome = .lineError ∧ reached s.now a.lineWait = true) →
    (s.ports.get side).state.accepts = true → (s.ports.get side).state.fits (s.ports.get side).score →
    (s.ports.get side).score + 8 < 192 → s.queues.frames.get side = pre ++ x :: post → x.onLine = true →
    (∀ y ∈ pre, y.onLine = false) →
    ∃ t, exec row s = .next t ∧
      t.ports =
        s.ports.modify side (fun p =>
          { p with
            state := if 96 ≤ p.score + 8 then .warned else p.state
            score := p.score + 8
            attempt := none
            counters :=
              { p.counters.count outcome with
                warnedEntry :=
                  if p.state = .active ∧ 96 ≤ p.score + 8 then bump p.counters.warnedEntry
                  else p.counters.warnedEntry } }) ∧
      ((s.ports.get side).state = .active → 96 ≤ (s.ports.get side).score + 8 →
        t.events.has (.warned side) = true) ∧
      (x.mark = .none → x.attempts + 1 ≤ s.agent.params.retryLimit →
        t.queues.frames.get side = pre ++ { x with attempts := x.attempts + 1, onLine := false } :: post ∧
          t.queues.counters = s.queues.counters) ∧
      (x.mark = .none → s.agent.params.retryLimit < x.attempts + 1 →
        t.queues.frames.get side = pre ++ post ∧ t.events.has (.undeliverable side) = true ∧
          t.queues.counters.get side =
            { s.queues.counters.get side with undeliverable := bump (s.queues.counters.get side).undeliverable }) ∧
      (x.mark ≠ .none →
        t.queues.frames.get side = pre ++ post ∧ (x.mark = .stale → t.events.has .staleDrop = true) ∧
          t.events.has (.undeliverable side) = s.events.has (.undeliverable side) ∧
          t.queues.counters.get side =
            let c := s.queues.counters.get side
            match x.mark with
            | .none => c
            | .stale => { c with stale := bump c.stale }
            | .cancelled => { c with cancelled := bump c.cancelled }
            | .isolated => { c with isolatedRemoved := bump c.isolatedRemoved }) ∧
      t.queues.frames.get side.far = s.queues.frames.get side.far ∧
      t.queues.counters.get side.far = s.queues.counters.get side.far ∧
      ((s.ports.get side).state = .warned ∨ (s.ports.get side).score + 8 < 96 →
        x.mark = .none ∧ x.attempts + 1 ≤ s.agent.params.retryLimit ∨ x.mark = .cancelled ∨ x.mark = .isolated →
        t.events = s.events) ∧
      (∀ f, f ≠ .warned side → f ≠ .undeliverable side → f ≠ .staleDrop ∨ x.mark ≠ .stale →
        t.events.has f = s.events.has f) ∧
      t.events.reports = s.events.reports ∧ t.events.enables = s.events.enables ∧ t.banks = s.banks ∧ t.tags = s.tags ∧
      t.proxy = s.proxy ∧ t.trip = s.trip ∧ t.agent = s.agent ∧ t.image = s.image

/-- A failed attempt, ended by LINE_WAIT_EXPIRY too, that brings the score to 192 or more takes the side to SILENT. The
fate of its frame is settled first: a frame past RETRY_LIMIT leaves as *undeliverable* and a marked one under its mark.
Then every frame still in the queue is counted *purged-silent*, S_SILENT is set, and the recovery deadline is
AUTO_RECOVER_MS on, absent when that is 0; the far side's queue is untouched (R81, R85, R88, R101, R106). -/
def Obligations.FailingSidesFallSilent : Prop :=
  ∀ (side : Side) (outcome : LineOutcome) (row : Instr) (pre post : List QFrame) (x : QFrame) (a : Attempt)
      (s : State),
    s.phase = .running → s.Unreported → (s.ports.get side).attempt = some a →
    (row = .attemptCompletion side .noack ∧ outcome = .noack) ∨
      (row = .attemptCompletion side .lineError ∧ outcome = .lineError) ∨
      (row = .lineWaitExpiry side ∧ outcome = .lineError ∧ reached s.now a.lineWait = true) →
    (s.ports.get side).state.accepts = true → 192 ≤ (s.ports.get side).score + 8 →
    s.queues.frames.get side = pre ++ x :: post → x.onLine = true → (∀ y ∈ pre, y.onLine = false) →
    let leaves : Bool := x.mark != .none || decide (s.agent.params.retryLimit < x.attempts + 1)
    exec row s =
      .next
        { (s.onQueue side fun _ => []).countQueue side fun c =>
            { (match x.mark with
              | .none => if leaves then { c with undeliverable := bump c.undeliverable } else c
              | .stale => { c with stale := bump c.stale }
              | .cancelled => { c with cancelled := bump c.cancelled }
              | .isolated => { c with isolatedRemoved := bump c.isolatedRemoved }) with
              purgedSilent := satAdd c.purgedSilent (pre.length + post.length + if leaves then 0 else 1) } with
          ports :=
            s.ports.modify side fun p =>
              { p with
                state := .silent
                score := min (p.score + 8) 255
                attempt := none
                recovery :=
                  if s.agent.params.autoRecover = 0 then none
                  else some (s.now + s.agent.params.autoRecover.setWidth 32)
                counters :=
                  { p.counters.count outcome with silentEntry := bump p.counters.silentEntry } }
          events :=
            (match x.mark with
            | .none => if leaves then s.events.mark (.undeliverable side) else s.events
            | .stale => s.events.mark .staleDrop
            | .cancelled | .isolated => s.events).mark (.silent side) }

/-- A SILENT side returns to ACTIVE with score 0 and no recovery deadline, S_RECOVERED set: at its recovery deadline
(R107), and by the owner's SIDE_CONTROL RECOVER, answered with the new state and score (R108). -/
def Obligations.SilentSidesRecover : Prop :=
  (∀ (side : Side) (d : CTime) (s : State), s.phase = .running → (s.ports.get side).state = .silent →
    (s.ports.get side).recovery = some d → reached s.now d = true →
    ∃ t, exec (.recoveryDeadline side) s = .next t ∧ t.events.has (.recovered side) = true ∧
      t.ports = s.ports.modify side (fun p =>
        { p with
          state := .active
          score := 0
          recovery := none
          counters := { p.counters with automaticRecovery := bump p.counters.automaticRecovery } }) ∧
      t.banks = s.banks ∧ t.tags = s.tags ∧ t.proxy = s.proxy ∧ t.trip = s.trip ∧ t.agent = s.agent ∧
      t.image = s.image ∧ (s.Unreported → t.queues = s.queues ∧ t.events = s.events.mark (.recovered side))) ∧
  ∀ (m : Arrival) (seq : Byte) (side : Side) (x : Session) (s : State), s.HearsOwner m seq x →
    (s.ports.get side).state = .silent →
    ∃ t, exec (.sideControlRecover m seq side.code) s = .next t ∧ t.events.has (.recovered side) = true ∧
      (t.ports.get side).view = { (s.ports.get side).view with state := .active, score := 0, recovery := none } ∧
      (t.ports.get side.far).view = (s.ports.get side.far).view ∧
      (t.ports.get side).counters.commandedRecovery = bump (s.ports.get side).counters.commandedRecovery ∧
      (s.Unreported → s.Room m.side →
        State.Leaves
          (((s.delivered m).onPort side fun p =>
              { p with
                counters :=
                  { p.counters with commandedRecovery := bump p.counters.commandedRecovery } }).queueResponse
            m ⟨seq, 0x13, .ok, [side.code, 0, 0]⟩)
          t [.recovered side]) ∧
      t.steady =
        { s.steady with
          portA := t.ports.a.view
          portB := t.ports.b.view
          session := some (x.answered s.now m.side ⟨seq, 0x13, .ok, [side.code, 0, 0]⟩) }

/-- SIDE_CONTROL OFF from the owner aborts the attempt, empties the side's queue as *purged-off*, cancels the recovery
deadline, keeps the score and makes the side OFF (R89, R109); ON takes an OFF side to ACTIVE with score 0 (R110). Each
answers with side, state and score, and touches nothing of the far port; where no report waits to be sent and the
response is queued without displacing a frame, it sets no flag, and nothing else changes. -/
def Obligations.SideControlOffAndOn : Prop :=
  (∀ (m : Arrival) (seq : Byte) (side : Side) (x : Session) (s : State), s.HearsOwner m seq x →
    (s.ports.get side).state ≠ .off →
    ∃ t, exec (.sideControlOff m seq side.code) s = .next t ∧ t.queues.frames.get side = [] ∧
      (t.ports.get side).view = { (s.ports.get side).view with state := .off, attempt := none, recovery := none } ∧
      (t.ports.get side.far).view = (s.ports.get side.far).view ∧
      (t.ports.get side).counters.aborted =
        (if (s.ports.get side).attempt.isSome then bump (s.ports.get side).counters.aborted
        else (s.ports.get side).counters.aborted) ∧
      (t.queues.counters.get side).purgedOff =
        satAdd (s.queues.counters.get side).purgedOff (s.queues.frames.get side).length ∧
      t.events.enables = s.events.enables ∧ (s.Quiet → s.Room m.side → t.events.flags = s.events.flags) ∧
      (s.Quiet → s.Room m.side → side ≠ m.side →
        State.Leaves
          (State.queueResponse
            (((((s.delivered m).onQueue side fun _ => []).countQueue side fun c =>
                { c with purgedOff := satAdd c.purgedOff (s.queues.frames.get side).length }).onPort side fun p =>
              { p with
                counters :=
                  { p.counters with
                    aborted := if p.attempt.isSome then bump p.counters.aborted else p.counters.aborted } }))
            m ⟨seq, 0x13, .ok, [side.code, 3, countByte (s.ports.get side).score]⟩)
          t []) ∧
      t.steady =
        { s.steady with
          portA := t.ports.a.view
          portB := t.ports.b.view
          session := some (x.answered s.now m.side
            ⟨seq, 0x13, .ok, [side.code, 3, countByte (s.ports.get side).score]⟩) }) ∧
  ∀ (m : Arrival) (seq : Byte) (side : Side) (x : Session) (s : State), s.HearsOwner m seq x →
    (s.ports.get side).state = .off →
    ∃ t, exec (.sideControlOn m seq side.code) s = .next t ∧
      s.AnswersOnly t m ⟨seq, 0x13, .ok, [side.code, 0, 0]⟩ [] ∧
      (t.ports.get side).view = { (s.ports.get side).view with state := .active, score := 0 } ∧
      (t.ports.get side.far).view = (s.ports.get side.far).view ∧
      t.steady =
        { s.steady with
          portA := t.ports.a.view
          portB := t.ports.b.view
          session := some (x.answered s.now m.side ⟨seq, 0x13, .ok, [side.code, 0, 0]⟩) }

/-! ## The banks and the table transfer -/

/-- In shadow state CLEAN the owner's WRITE_ENTRY replaces one shadow entry and WRITE_MASKS_DEFAULTS the header, without
validation (R120, R121); COPY_ACTIVE, outside LOADING, makes the shadow bank a copy of the active one, CLEAN (R122).
Each is answered OK, and nothing else of the steady part changes: not the active bank, its hits or any record. -/
def Obligations.ShadowEdits : Prop :=
  ∀ (m : Arrival) (seq : Byte) (x : Session) (s : State), s.HearsOwner m seq x →
    (∀ (i : Fin 64) (e : Entry) (body : Payload), s.banks.shadowState = .clean → Entry.ofBytes body = some e →
      ∃ t, exec (.writeEntry m seq (countByte i.val :: body)) s = .next t ∧
        s.AnswersOnly t m ⟨seq, 0x08, .ok, [countByte i.val]⟩ [] ∧
        t.steady =
          { s.steady with
            shadow := { s.banks.shadow with entries := s.banks.shadow.entries.set i e }
            bankCounts := { s.banks.counters with shadowWrites := bump s.banks.counters.shadowWrites }
            session := some (x.answered s.now m.side ⟨seq, 0x08, .ok, [countByte i.val]⟩) }) ∧
    (∀ (h : BankHeader) (args : Payload), s.banks.shadowState = .clean → BankHeader.ofBytes args = some h →
      ∃ t, exec (.writeMasksDefaults m seq args) s = .next t ∧
        s.AnswersOnly t m ⟨seq, 0x09, .ok, []⟩ [] ∧
        t.steady =
          { s.steady with
            shadow := { s.banks.shadow with header := h }
            bankCounts := { s.banks.counters with shadowWrites := bump s.banks.counters.shadowWrites }
            session := some (x.answered s.now m.side ⟨seq, 0x09, .ok, []⟩) }) ∧
    (s.banks.shadowState.isLoading = false →
      ∃ t, exec (.copyActive m seq []) s = .next t ∧
        s.AnswersOnly t m ⟨seq, 0x0A, .ok, []⟩ [] ∧
        t.steady =
          { s.steady with
            shadow := s.banks.active
            shadowState := .clean
            session := some (x.answered s.now m.side ⟨seq, 0x0A, .ok, []⟩) })

/-- COMMIT from the owner in shadow state CLEAN: when no entry in use fails, the banks exchange roles, all hit counts
become 0 and COMMIT_DONE is set (R127); else the lowest failing entry and its first failed check are answered with
INVALID_TABLE, COMMIT_REFUSED is set, and banks, hits and shadow state stay (R125). -/
def Obligations.CommitSwapsOrRefuses : Prop :=
  ∀ (m : Arrival) (seq : Byte) (x : Session) (s : State), s.HearsOwner m seq x → s.banks.shadowState = .clean →
    ((∀ i : Fin 64, (s.banks.shadow.entries[i]).inUse = true →
        (s.banks.shadow.entries[i]).fault s.trip.config = none) →
      ∃ t, exec (.commit m seq []) s = .next t ∧ t.events.has .commitDone = true ∧
        s.AnswersOnly t m ⟨seq, 0x0B, .ok, [countByte (s.banks.shadow.entries.toList.countP (·.inUse))]⟩ [.commitDone] ∧
        t.steady =
          { s.steady with
            active := s.banks.shadow
            shadow := s.banks.active
            hits := Vector.replicate 64 0
            bankCounts := { s.banks.counters with commitDone := bump s.banks.counters.commitDone }
            session := some (x.answered s.now m.side
              ⟨seq, 0x0B, .ok, [countByte (s.banks.shadow.entries.toList.countP (·.inUse))]⟩) }) ∧
    (∀ (i : Fin 64) (why : Invalid), (s.banks.shadow.entries[i]).inUse = true →
      (s.banks.shadow.entries[i]).fault s.trip.config = some why →
      (∀ j < i, (s.banks.shadow.entries[j]).inUse = true →
        (s.banks.shadow.entries[j]).fault s.trip.config = none) →
      ∃ t, exec (.commit m seq []) s = .next t ∧ t.events.has .commitRefused = true ∧
        s.AnswersOnly t m ⟨seq, 0x0B, .invalidTable, [countByte i.val, why.code]⟩ [.commitRefused] ∧
        t.steady =
          { s.steady with
            bankCounts := { s.banks.counters with commitRefused := bump s.banks.counters.commitRefused }
            session := some (x.answered s.now m.side
              ⟨seq, 0x0B, .invalidTable, [countByte i.val, why.code]⟩) })

/-- The checks of Table 6-3 and their order: an entry fails with a reason just when its check fails and every check
before it passes (R126). -/
def Obligations.ValidationChecksInOrder : Prop :=
  ∀ (e : Entry) (c : TripConfig),
    let fails : Invalid → Prop := fun why =>
      match why with
      | .noSides => e.onA = false ∧ e.onB = false
      | .noKinds => e.data = false ∧ e.query = false
      | .filterWithoutData => e.filter ≠ .none ∧ e.data = false
      | .filterWithDrop => e.filter ≠ .none ∧ e.action = .drop
      | .zeroWindow => e.filter = .repeated ∧ e.window = 0
      | .zeroFreshness => e.action = .proxy ∧ e.freshness = 0
      | .tripUndefined => ∃ k, e.trip = some k ∧ c.sources[k] = none
      | .rewriteWithoutTagChange => e.action = .rewrite ∧ e.keepItem = false ∧ e.rewriteTag = e.tag
    (∀ why, e.fault c = some why ↔ fails why ∧ ∀ w : Invalid, w.code < why.code → ¬fails w) ∧
      (e.fault c = none ↔ ∀ why, ¬fails why)

/-- A table transfer runs to its end: LOAD_BEGIN outside LOADING clears the shadow bank and opens LOADING with nothing
applied (R164); LOAD_PART with the expected part applies its item, sums its bytes and renews the idle deadline (R166),
with an earlier part renews the deadline alone (R167), and with a part at or beyond the declared count or a malformed
item is BAD_ARGUMENT while the transfer goes on as it was (R165); LOAD_END with every part applied and the right
checksum makes the shadow CLEAN (R169). The active bank stays. -/
def Obligations.TransfersRunToTheirEnd : Prop :=
  ∀ (m : Arrival) (seq : Byte) (x : Session) (s : State), s.HearsOwner m seq x →
    (∀ count : Byte, s.banks.shadowState.isLoading = false → 1 ≤ count.toNat → count.toNat ≤ 65 →
      ∃ t, exec (.loadBegin m seq [count]) s = .next t ∧
        s.AnswersOnly t m ⟨seq, 0x0C, .ok, [count]⟩ [] ∧
        t.steady =
          { s.steady with
            shadow :=
              { entries := Vector.replicate 64 Entry.cleared
                header := { masks := #v[0, 0, 0, 0], defaults := ⟨.pass, .pass⟩, mgmtPass := .pass } }
            shadowState := .loading { declared := count.toNat, expected := 0, sum := 0, idle := s.now + 2000 }
            session := some (x.answered s.now m.side ⟨seq, 0x0C, .ok, [count]⟩) }) ∧
    (∀ (tr : Transfer) (b : Byte) (bytes : Payload) (item : Item), s.banks.shadowState = .loading tr →
      tr.expected < tr.declared → tr.declared ≤ 65 → bytes.length < 19 → Item.ofBytes (b :: bytes) = some item →
      ∃ t, exec (.loadPart m seq (countByte tr.expected :: b :: bytes)) s = .next t ∧
        s.AnswersOnly t m ⟨seq, 0x0D, .ok, [countByte tr.expected, countByte (tr.expected + 1)]⟩ [] ∧
        t.steady =
          { s.steady with
            shadow :=
              match item with
              | .header h => { s.banks.shadow with header := h }
              | .entry i e => { s.banks.shadow with entries := s.banks.shadow.entries.set i e }
            shadowState :=
              .loading
                { declared := tr.declared
                  expected := tr.expected + 1
                  sum := tr.sum + ((b :: bytes).map (·.setWidth 16)).sum
                  idle := s.now + 2000 }
            session := some (x.answered s.now m.side
              ⟨seq, 0x0D, .ok, [countByte tr.expected, countByte (tr.expected + 1)]⟩) }) ∧
    (∀ (tr : Transfer) (part b : Byte) (bytes : Payload), s.banks.shadowState = .loading tr → bytes.length < 19 →
      (part.toNat < tr.declared → part.toNat < tr.expected →
        ∃ t, exec (.loadPart m seq (part :: b :: bytes)) s = .next t ∧
          s.AnswersOnly t m ⟨seq, 0x0D, .ok, [part, countByte tr.expected]⟩ [] ∧
          t.steady =
            { s.steady with
              shadowState := .loading { tr with idle := s.now + 2000 }
              session := some (x.answered s.now m.side ⟨seq, 0x0D, .ok, [part, countByte tr.expected]⟩) }) ∧
      (tr.declared ≤ part.toNat ∨ part.toNat = tr.expected ∧ Item.ofBytes (b :: bytes) = none →
        s.Answers (.loadPart m seq (part :: b :: bytes)) m seq x 0x0D .badArgument
          [part, countByte tr.expected])) ∧
    (∀ tr : Transfer, s.banks.shadowState = .loading tr → tr.expected = tr.declared →
      ∃ t, exec (.loadEnd m seq (be16 tr.sum)) s = .next t ∧
        s.AnswersOnly t m ⟨seq, 0x0E, .ok, countByte tr.declared :: be16 tr.sum⟩ [] ∧
        t.steady =
          { s.steady with
            shadowState := .clean
            session := some (x.answered s.now m.side
              ⟨seq, 0x0E, .ok, countByte tr.declared :: be16 tr.sum⟩) })

/-- A transfer is aborted, the shadow state INCOMPLETE and LOAD_ABORTED set, by a part above the expected one (R168), by
a LOAD_END with parts missing or a wrong checksum (R169), and at its idle deadline (R170); what was applied stays. -/
def Obligations.TransfersAreAborted : Prop :=
  (∀ (m : Arrival) (seq : Byte) (x : Session) (tr : Transfer) (s : State), s.HearsOwner m seq x →
    s.banks.shadowState = .loading tr →
    (∀ (part b : Byte) (bytes : Payload), bytes.length < 19 → tr.expected < part.toNat → part.toNat < tr.declared →
      ∃ t, exec (.loadPart m seq (part :: b :: bytes)) s = .next t ∧ t.events.has .loadAborted = true ∧
        s.AnswersOnly t m ⟨seq, 0x0D, .sequenceGap, [part, countByte tr.expected]⟩ [.loadAborted] ∧
        t.steady =
          { s.steady with
            shadowState := .incomplete
            session := some (x.answered s.now m.side
              ⟨seq, 0x0D, .sequenceGap, [part, countByte tr.expected]⟩) }) ∧
    (∀ h l : Byte, tr.expected < tr.declared →
      ∃ t, exec (.loadEnd m seq [h, l]) s = .next t ∧ t.events.has .loadAborted = true ∧
        s.AnswersOnly t m ⟨seq, 0x0E, .sequenceGap, [countByte tr.declared, countByte tr.expected]⟩ [.loadAborted] ∧
        t.steady =
          { s.steady with
            shadowState := .incomplete
            session := some (x.answered s.now m.side
              ⟨seq, 0x0E, .sequenceGap, [countByte tr.declared, countByte tr.expected]⟩) }) ∧
    (∀ h l : Byte, tr.declared ≤ tr.expected → h ++ l ≠ tr.sum →
      ∃ t, exec (.loadEnd m seq [h, l]) s = .next t ∧ t.events.has .loadAborted = true ∧
        s.AnswersOnly t m ⟨seq, 0x0E, .checksumMismatch, be16 tr.sum⟩ [.loadAborted] ∧
        t.steady =
          { s.steady with
            shadowState := .incomplete
            session := some (x.answered s.now m.side ⟨seq, 0x0E, .checksumMismatch, be16 tr.sum⟩) })) ∧
  ∀ (tr : Transfer) (s : State), s.phase = .running → s.banks.shadowState = .loading tr →
    reached s.now tr.idle = true →
    ∃ t, exec .idleDeadline s = .next t ∧ t.events.has .loadAborted = true ∧
      (s.Unreported → s.Leaves t [.loadAborted]) ∧
      t.steady = { s.steady with shadowState := .incomplete }

/-! ## The trip unit -/

/-- A payload asserts a defined source when it has the offset's byte and that byte agrees under the mask (R133). Every
assertion is counted. One of a required source begins a collection in WATCHING, with its deadline, and adds to one in
COLLECTING, whose deadline stays; when it completes the required set the unit is TRIPPED in its event: record written,
ISOL high, TRIPPED set, no waiting DATA or QUERY frame and no outstanding query left (R135, R137). A source asserted
already or not required changes nothing else. At its reception a completing DATA frame is dropped as *isolated*, and
any other goes on to its action, here DROP or PASS without a filter (R20). WINDOW_DEADLINE lapses one (R136). -/
def Obligations.CollectionsCompleteOrLapse : Prop :=
  (∀ (c : TripConfig) (k : Fin 4) (payload : Payload), c.asserts k payload = true ↔
    ∃ d b, c.sources[k] = some d ∧ payload[d.offset]? = some b ∧ b &&& d.mask = d.value &&& d.mask) ∧
  (∀ (k : Fin 4) (side : Side) (tag : Tag) (s : State),
    let watching : Bool := s.trip.state = .watching
    let before : BitVec 4 := if watching then 0 else s.trip.asserted
    let counted : TripCounters :=
      { s.trip.counters with
        assertions := s.trip.counters.assertions.set k (bump s.trip.counters.assertions[k])
        collections := if watching then bump s.trip.counters.collections else s.trip.counters.collections }
    (s.trip.config.required.getLsbD k.val = false ∨ s.trip.state = .disarmed ∨ s.trip.state = .tripped ∨
        s.trip.state = .collecting ∧ s.trip.asserted.getLsbD k.val = true →
      s.assertSource k side tag =
        ({ s with
          trip :=
            { s.trip with
              counters :=
                { s.trip.counters with
                  assertions := s.trip.counters.assertions.set k (bump s.trip.counters.assertions[k]) } } },
          false)) ∧
    (watching = true ∨ s.trip.state = .collecting ∧ s.trip.asserted.getLsbD k.val = false →
      s.trip.config.required.getLsbD k.val = true →
      (before ||| (1#4 <<< k.val) = s.trip.config.required →
        (s.assertSource k side tag).2 = true ∧
        (s.assertSource k side tag).1.trip =
          { s.trip with
            state := .tripped
            asserted := s.trip.config.required
            deadline := none
            last := some ⟨s.now, k, side, tag⟩
            isol := true
            counters := { counted with trips := bump s.trip.counters.trips } } ∧
        (s.assertSource k side tag).1.events.has .tripped = true ∧
        (BothSides fun sd =>
          (s.assertSource k side tag).1.queues.frames.get sd =
            ((s.queues.frames.get sd).filter fun y => !(y.frame.traffic && !y.onLine)).map fun y =>
              if y.frame.traffic = true ∧ y.mark = .none then { y with mark := .isolated } else y) ∧
        (s.assertSource k side tag).1.proxy.list = [] ∧
        (s.BindingsOk → ∀ i : Fin 48, (s.assertSource k side tag).1.tags.records[i] =
          (s.tags.records[i]).map fun r => { r with bound := false }) ∧
        (s.assertSource k side tag).1.tags.counters = s.tags.counters ∧
        (s.assertSource k side tag).1.banks = s.banks ∧ (s.assertSource k side tag).1.ports = s.ports ∧
        (s.assertSource k side tag).1.agent = s.agent ∧ (s.assertSource k side tag).1.image = s.image ∧
        (s.Unreported → (s.assertSource k side tag).1.events = s.events.mark .tripped)) ∧
      (before ||| (1#4 <<< k.val) ≠ s.trip.config.required →
        s.assertSource k side tag =
          ({ s with
            trip :=
              { s.trip with
                state := .collecting
                asserted := before ||| (1#4 <<< k.val)
                deadline :=
                  if watching then some (s.now + s.trip.config.window.setWidth 32) else s.trip.deadline
                counters := counted } },
            false)))) ∧
  (∀ (side : Side) (f : Frame) (reply : Bool) (tag : Tag) (i : Fin 64) (e : Entry) (k : Fin 4) (heard taken : State)
      (s : State),
    s.Receives side → s.Quiet → f.payload.length ≤ Config.payload → f.body = .data reply tag →
    s.trip.state ≠ .tripped → s.banks.active.winner side false tag = some i → e = s.banks.active.entries[i] →
    e.trip = some k →
    heard = ((s.heard side).countClassifier side fun c => { c with dataTaken := bump c.dataTaken }) →
    taken = (if reply then heard.settleReply side tag else heard).hit i →
    (s.trip.config.asserts k f.payload = true → (taken.assertSource k side tag).2 = true →
      ∃ t, exec (.reception side f.bytes) s = .next t ∧ t.trip = (taken.assertSource k side tag).1.trip ∧
        t.events.has .tripped = true ∧
        (s.Unreported →
          t = (taken.assertSource k side tag).1.countClassifier side fun c =>
            { c with isolated := bump c.isolated })) ∧
    (∀ offered : State,
      s.trip.config.asserts k f.payload = false ∧ offered = taken ∨
        s.trip.config.asserts k f.payload = true ∧ taken.assertSource k side tag = (offered, false) →
      (e.action = .drop →
        exec (.reception side f.bytes) s =
          .next (offered.countClassifier side fun c => { c with table := bump c.table })) ∧
      (e.action = .pass → e.filter = .none → f.hop ≠ 0 → s.Room side.far →
        exec (.reception side f.bytes) s =
          .next
            ((offered.countClassifier side fun c => { c with forwarded := bump c.forwarded }).enqueue side.far
              { f with cls := e.setClass.getD f.cls, hop := f.hop - 1 })))) ∧
  ∀ (d : CTime) (s : State), s.phase = .running → s.trip.state = .collecting → s.trip.deadline = some d →
    reached s.now d = true →
    ∃ t, exec .windowDeadline s = .next t ∧ t.events.has .tripLapsed = true ∧
      (s.Unreported → s.Leaves t [.tripLapsed]) ∧
      t.steady =
        { s.steady with
          trip :=
            { s.trip with
              state := .watching
              asserted := 0
              deadline := none
              counters := { s.trip.counters with lapses := bump s.trip.counters.lapses } } }

/-- SET_TRIP outside TRIPPED with a coherent configuration that keeps every source the active bank names replaces the
configuration, abandons a collection and leaves WATCHING or DISARMED (R140, R141). RELEASE_TRIP in TRIPPED empties the
asserted set, sets ISOL low and TRIP_RELEASED (R139). Nothing else of the steady part changes but the session. -/
def Obligations.TripCommands : Prop :=
  ∀ (m : Arrival) (seq : Byte) (x : Session) (s : State), s.HearsOwner m seq x →
    (∀ (args : Payload) (c : TripConfig), TripConfig.ofBytes args = some c → s.trip.state ≠ .tripped →
      (∀ (i : Fin 64) (k : Fin 4), (s.banks.active.entries[i]).inUse = true →
        (s.banks.active.entries[i]).trip = some k → (c.sources[k]).isSome = true) →
      ∃ t, exec (.setTrip m seq args) s = .next t ∧
        s.AnswersOnly t m ⟨seq, 0x16, .ok, [if c.required = 0 then 0 else 1]⟩ [] ∧
        t.steady =
          { s.steady with
            trip :=
              { s.trip with
                config := c
                state := if c.required = 0 then .disarmed else .watching
                asserted := 0
                deadline := none
                counters :=
                  { s.trip.counters with
                    abandoned :=
                      if s.trip.state = .collecting then bump s.trip.counters.abandoned
                      else s.trip.counters.abandoned } }
            session := some (x.answered s.now m.side
              ⟨seq, 0x16, .ok, [if c.required = 0 then 0 else 1]⟩) }) ∧
    (s.trip.state = .tripped →
      ∃ t, exec (.releaseTrip m seq []) s = .next t ∧ t.events.has .tripReleased = true ∧
        s.AnswersOnly t m ⟨seq, 0x17, .ok, [if s.trip.config.required = 0 then 0 else 1]⟩ [.tripReleased] ∧
        t.steady =
          { s.steady with
            trip :=
              { s.trip with
                state := if s.trip.config.required = 0 then .disarmed else .watching
                asserted := 0
                isol := false
                counters := { s.trip.counters with releases := bump s.trip.counters.releases } }
            session := some (x.answered s.now m.side
              ⟨seq, 0x17, .ok, [if s.trip.config.required = 0 then 0 else 1]⟩) })

/-! ## The management agent -/

/-- OPEN with a lease of 1 to 255: with no session the sender becomes the owner, from the owner the lease is replaced
and renewed, and any other station is refused with the owner and its side while the session stays (R148, R149). That
bits 15 to 12 of a station in a response are 0 is the model's choice (log entry 23, DESIGN CHOICE). -/
def Obligations.OpenGivesTheSessionToOneStation : Prop :=
  ∀ (m : Arrival) (seq lease : Byte) (s : State), s.Hears m → lease ≠ 0 →
    let ok : Response := ⟨seq, 0x02, .ok, stationBytes m.source ++ [lease]⟩
    (s.agent.session = none →
      ∃ t, exec (.openSession m seq [lease]) s = .next t ∧
        t.agent.counters.sessionsOpened = bump s.agent.counters.sessionsOpened ∧
        (s.Quiet → s.Room m.side →
          State.Leaves
            (((s.delivered m).countAgent fun c => { c with sessionsOpened := bump c.sessionsOpened }).queueResponse m ok)
            t []) ∧
        t.steady =
          { s.steady with
            session :=
              some
                { owner := m.source
                  lease := lease
                  deadline := s.now + 1000 * lease.setWidth 32
                  side := m.side
                  lastSeq := seq
                  cached := ok } }) ∧
    (∀ x, s.agent.session = some x → x.owner = m.source → x.lastSeq ≠ seq →
      ∃ t, exec (.openSession m seq [lease]) s = .next t ∧ s.AnswersOnly t m ok [] ∧
        t.steady = { s.steady with session := some (Session.answered { x with lease := lease } s.now m.side ok) }) ∧
    (∀ x, s.agent.session = some x → x.owner ≠ m.source → s.Quiet → s.Room m.side →
      exec (.openSession m seq [lease]) s =
        .next
          (((s.delivered m).countAgent fun c => { c with openRefused := bump c.openRefused }).queueResponse m
            ⟨seq, 0x02, .refusedOwned, stationBytes x.owner ++ [x.side.code]⟩))

/-- The session ends at the owner's CLOSE (R150) and at the lease deadline, which sets LEASE_EXPIRED (R151). Either
aborts an open transfer, and everything else of the steady part stays. -/
def Obligations.SessionsEnd : Prop :=
  (∀ (m : Arrival) (seq : Byte) (x : Session) (s : State), s.HearsOwner m seq x →
    ∃ t, exec (.closeSession m seq []) s = .next t ∧ t.agent.counters.closes = bump s.agent.counters.closes ∧
      (s.banks.shadowState.isLoading = true → t.events.has .loadAborted = true) ∧
      (s.Unreported → s.Room m.side →
        State.Leaves
          (((s.delivered m).countAgent fun c => { c with closes := bump c.closes }).queueResponse m ⟨seq, 0x03, .ok, []⟩)
          t (if s.banks.shadowState.isLoading then [.loadAborted] else [])) ∧
      t.steady =
        { s.steady with
          session := none
          shadowState := if s.banks.shadowState.isLoading then .incomplete else s.banks.shadowState }) ∧
  ∀ (x : Session) (s : State), s.phase = .running → s.agent.session = some x → reached s.now x.deadline = true →
    ∃ t, exec .leaseDeadline s = .next t ∧ t.events.has .leaseExpired = true ∧
      (s.banks.shadowState.isLoading = true → t.events.has .loadAborted = true) ∧
      t.agent.counters.leaseExpiries = bump s.agent.counters.leaseExpiries ∧
      (s.Unreported →
        (s.countAgent fun c => { c with leaseExpiries := bump c.leaseExpiries }).Leaves t
          (if s.banks.shadowState.isLoading then [.loadAborted, .leaseExpired] else [.leaseExpired])) ∧
      t.steady =
        { s.steady with
          session := none
          shadowState := if s.banks.shadowState.isLoading then .incomplete else s.banks.shadowState }

/-- A command of the owner with the last sequence number, whatever its code, is not executed: the lease is renewed, the
cached response is sent again, and nothing else of the steady part changes (R144, R152). -/
def Obligations.DuplicatesAreNotExecuted : Prop :=
  ∀ (i : Instr) (m : Arrival) (seq code : Byte) (x : Session) (s : State), i.wellFormed = true →
    i.command = some (m, seq, code) → s.Hears m → s.agent.session = some x → x.owner = m.source → x.lastSeq = seq →
    (∃ t, exec i s = .next t ∧ t.agent.counters.duplicates = bump s.agent.counters.duplicates ∧
      t.steady =
        { s.steady with
          session := some { x with deadline := s.now + 1000 * x.lease.setWidth 32, side := m.side } }) ∧
    (s.Quiet → s.Room m.side →
      ∃ t, exec i s = .next t ∧
        State.Leaves
          (((s.delivered m).countAgent fun c => { c with duplicates := bump c.duplicates }).queueResponse m x.cached)
          t [])

/-- A command that Table 8-3 gives to the owner alone is refused to every other station, also while there is no session:
it is counted refused-not-owner and changes nothing of the steady part, the session included (R144, R153). -/
def Obligations.StrangersAreRefused : Prop :=
  ∀ (i : Instr) (m : Arrival) (seq code : Byte) (s : State), i.wellFormed = true →
    i.command = some (m, seq, code) → code ∈ ownerCodes → s.Hears m → (∀ x ∈ s.agent.session, x.owner ≠ m.source) →
    ∃ t, exec i s = .next t ∧ t.steady = s.steady ∧
      t.agent.counters.refusedNotOwner = bump s.agent.counters.refusedNotOwner ∧
      (s.Quiet → s.Room m.side → code ≠ 0x0D →
        State.Leaves
          (((s.delivered m).countAgent fun c => { c with refusedNotOwner := bump c.refusedNotOwner }).queueResponse m
            ⟨seq, code, .refusedNotOwner, []⟩)
          t [])

/-- Messages that are no command: a code that names none is answered UNKNOWN_COMMAND (R144), and a message with a bad
header, a RESPONSE or a REPORT addressed to the coupler is only counted (R143). A broadcast with a bad header, or with
any other message than a COMMAND IDENTIFY, is counted by the agent likewise, and its frame is forwarded independently:
dropped as *management*, across with its hop less one, or dropped as *hop-expired* with HOP_EXPIRED set (R29, R30,
R143). -/
def Obligations.MessagesThatAreNoCommand : Prop :=
  (∀ (m : Arrival) (seq code : Byte) (args : Payload) (s : State), s.Hears m → s.Quiet → s.Room m.side →
    s.NewCommand m seq → (Instr.unknownCommand m seq code args).wellFormed = true →
    exec (.unknownCommand m seq code args) s =
      .next
        (((s.delivered m).countAgent fun c => { c with unknownCommand := bump c.unknownCommand }).answeredBy m
          ⟨seq, code, .unknownCommand, []⟩)) ∧
  (∀ (m : Arrival) (payload : Payload) (s : State), s.Hears m → s.Quiet →
    (Instr.badMessage m false payload).wellFormed = true →
    exec (.badMessage m false payload) s =
      .next ((s.handed m).countAgent fun c => { c with badMessage := bump c.badMessage })) ∧
  (∀ (m : Arrival) (payload : Payload) (s : State), s.Hears m → s.Quiet →
    (Instr.ignoredMessage m false payload).wellFormed = true →
    exec (.ignoredMessage m false payload) s =
      .next ((s.handed m).countAgent fun c => { c with ignoredMessage := bump c.ignoredMessage })) ∧
  ∀ (i : Instr) (m : Arrival) (payload : Payload) (s counted : State), s.Hears m → s.Quiet →
    s.agent.params.ownStation ≠ 0 → i.wellFormed = true →
    i = .badMessage m true payload ∧
        counted = ((s.handed m).countAgent fun c => { c with badMessage := bump c.badMessage }) ∨
      i = .ignoredMessage m true payload ∧
        counted = ((s.handed m).countAgent fun c => { c with ignoredMessage := bump c.ignoredMessage }) →
    (s.banks.active.header.mgmtPass = .drop →
      exec i s = .next (counted.countClassifier m.side fun c => { c with management := bump c.management })) ∧
    (s.banks.active.header.mgmtPass = .pass → m.hop ≠ 0 → s.Room m.side.far →
      exec i s =
        .next
          ((counted.countClassifier m.side fun c => { c with forwarded := bump c.forwarded }).enqueue m.side.far
            { body := .mgmt m.reply 0 m.source, cls := m.cls, hop := m.hop - 1, payload := payload })) ∧
    (s.banks.active.header.mgmtPass = .pass → m.hop = 0 →
      let dropped := counted.countClassifier m.side fun c => { c with hopExpired := bump c.hopExpired }
      ∃ t, exec i s = .next t ∧ t.steady = s.steady ∧ t.banks = dropped.banks ∧ t.agent = dropped.agent ∧
        t.events.has .hopExpired = true ∧ (s.Unreported → dropped.Leaves t [.hopExpired]))

/-- The reads of the agent, the ports, the trip unit and the event unit change nothing but the owner's session, the
counts of their delivery and answer and the free bytes taken, and answer with the bytes of Tables 12-9, 12-11 and
12-12: IDENTIFY, READ_STATUS, READ_COUNTERS, READ_CONFIG and READ_EVENTS (R155, R157 to R159, R185). Whether the
owner's GENERAL shows its own renewal, and the value and mask of an undefined source, are free (log entries 2, 3). The
model's choice, not the spec's: that the AGENT set shows the read itself counted (log entry 15, DEDUCED), and that the
bits those tables assign to nothing are 0 (log entry 23, DESIGN CHOICE). -/
def Obligations.ReadsOfTheUnitsAreAnswered : Prop :=
  ∀ (m : Arrival) (seq : Byte) (s d : State), s.Hears m → s.Quiet → s.Room m.side → s.NewCommand m seq →
    d = s.delivered m →
    exec (.identify m false seq []) s =
        .next (d.answeredBy m ⟨seq, 0x01, .ok,
          [0x04, 0x12, 0x01] ++ stationBytes s.agent.params.ownStation ++
            [s.image.strap.setWidth 8,
              0#4 ++ BitVec.ofBool s.agent.session.isSome ++ BitVec.ofBool (s.image.loaded == some .one) ++
                BitVec.ofBool s.image.loaded.isNone ++ BitVec.ofBool s.image.failmodeHigh] ++
            stationBytes (s.agent.session.elim 4095 Session.owner) ++ be32 s.now⟩) ∧
    (∃ y : Option Session,
      (y = s.agent.session ∨
        ∃ x, s.agent.session = some x ∧ x.owner = m.source ∧
          y = some { x with deadline := s.now + 1000 * x.lease.setWidth 32, side := m.side }) ∧
      exec (.readStatus m seq [0]) s =
        .next (d.answeredBy m ⟨seq, 0x04, .ok,
          be32 s.now ++ [if y.isSome then 3 else 0, s.banks.shadowState.code, if s.image.store.isSome then 1 else 0] ++
            stationBytes (y.elim 4095 Session.owner) ++ be32 (y.elim 0xFFFFFFFF#32 Session.deadline) ++
            [y.elim 0xFF fun x => x.side.code,
              countByte (48 - (s.queues.frames.a.length + s.queues.frames.b.length)), s.trip.state.code,
              if s.trip.isol then 1 else 0,
              0#4 ++ BitVec.ofBool (s.events.raised .guard) ++ BitVec.ofBool (s.events.raised .traffic) ++
                BitVec.ofBool (s.events.raised .table) ++ BitVec.ofBool (s.events.raised .port)]⟩)) ∧
    (∀ side : Side,
      exec (.readStatus m seq [1 + side.code]) s =
        .next (d.answeredBy m ⟨seq, 0x04, .ok,
          be32 s.now ++
            [0#6 ++ BitVec.ofBool ((s.queues.frames.get side).find? (·.onLine)).isSome ++
                BitVec.ofBool (s.ports.get side).recovery.isSome,
              (s.ports.get side).state.code, countByte (s.ports.get side).score] ++
            be32 ((s.ports.get side).recovery.getD 0xFFFFFFFF#32) ++ [countByte (s.queues.frames.get side).length] ++
            (((s.queues.frames.get side).find? (·.onLine)).elim [0, 0, 0] fun y =>
              [y.frame.cls.setWidth 8, countByte y.attempts, y.mark.code])⟩)) ∧
    exec (.readStatus m seq [3]) s =
        .next (d.answeredBy m ⟨seq, 0x04, .ok,
          be32 s.now ++
            [0#6 ++ BitVec.ofBool s.trip.last.isSome ++ BitVec.ofBool s.trip.deadline.isSome, s.trip.state.code,
              s.trip.asserted.setWidth 8] ++
            be32 (s.trip.deadline.getD 0xFFFFFFFF#32) ++
            (s.trip.last.elim [0, 0, 0, 0, 0, 0, 0, 0, 0] fun r =>
              be32 r.time ++ [countByte r.source.val, r.side.code] ++ tagBytes r.tag)⟩) ∧
    (∀ (set first : Byte) (cs : List Counter), d.counterSet set = some cs → first.toNat < cs.length →
      exec (.readCounters m seq [set, first]) s =
        .next (d.answeredBy m ⟨seq, 0x05, .ok,
          [set, first] ++ ((cs.drop first.toNat).take 4).flatMap be32⟩)) ∧
    (∀ (item : Byte) (i : ParamId), ParamId.ofCode item = some i →
      exec (.readConfig m seq [item]) s =
        .next (d.answeredBy m ⟨seq, 0x15, .ok, item :: be16 (s.agent.params.value i)⟩)) ∧
    (∃ (n : Nat) (b : Vector Payload 4),
      exec (.readConfig m seq [0xFF]) s =
        .next ({ d with free := n }.answeredBy m ⟨seq, 0x15, .ok,
          0xFF :: (b[0] ++ b[1] ++ b[2] ++ b[3] ++ [s.trip.config.required.setWidth 8] ++
            be16 s.trip.config.window)⟩) ∧
      ∀ k : Fin 4, (b[k]).length = 3 ∧
        (s.trip.config.sources[k] = none → (b[k]).head? = some 0xFF) ∧
        ∀ src, s.trip.config.sources[k] = some src → b[k] = [countByte src.offset, src.value, src.mask]) ∧
    (∀ (g : Group) (position : Byte),
      exec (.readEvents m seq [g.code, position]) s =
        .next (d.answeredBy m ⟨seq, 0x18, .ok,
          [g.code] ++ be16 (s.events.flags.get g) ++ be16 (s.events.enables.get g) ++
            [if s.events.flags.get g &&& s.events.enables.get g = 0 then 0 else 1,
              countByte (s.agent.params.levels.get g)]⟩)) ∧
    (∀ position : Byte, position.toNat ≤ 7 →
      exec (.readEvents m seq [4, position]) s =
        .next (d.answeredBy m ⟨seq, 0x18, .ok,
          [countByte s.events.reports.length, s.events.nextSeq] ++ be32 s.now ++ [position] ++
            (s.events.reports[position.toNat]?.elim [] fun r =>
              [r.seq, BitVec.ofBool r.outstanding ++ BitVec.ofNat 3 r.sends ++ 0#2 ++ r.group.code.extractLsb' 0 2,
                countByte r.level] ++
                be16 r.snapshot ++ be32 r.time ++
                be32 (if r.outstanding then r.retry.getD 0xFFFFFFFF#32 else 0xFFFFFFFF#32))⟩))

/-- The reads of the banks, the records and the outstanding list change nothing but the owner's session, the counts of
their delivery and answer and the free bytes taken, and answer with the bytes of Tables 12-10 to 12-12: READ_ENTRY,
READ_RECORD by number and by key, and READ_QUERIES (R49, R67, R123). The length byte of an absent value is free (log
entry 2, DESIGN CHOICE). That an absent last forwarded time reads FFFFFFFFh and that the status byte of a free record or
a missed key is 00h is the model's inference (log entry 10, DEDUCED). -/
def Obligations.ReadsOfTheTablesAreAnswered : Prop :=
  ∀ (m : Arrival) (seq : Byte) (s d : State), s.Hears m → s.Quiet → s.Room m.side → s.NewCommand m seq →
    d = s.delivered m →
    (∀ i : Fin 64,
      exec (.readEntry m seq [0, countByte i.val]) s =
          .next (d.answeredBy m ⟨seq, 0x07, .ok,
            [s.banks.shadowState.code, 0, countByte i.val] ++ (s.banks.active.entries[i]).bytes ++
              be32 s.banks.hits[i]⟩) ∧
        exec (.readEntry m seq [1, countByte i.val]) s =
          .next (d.answeredBy m ⟨seq, 0x07, .ok,
            [s.banks.shadowState.code, 1, countByte i.val] ++ (s.banks.shadow.entries[i]).bytes⟩)) ∧
    (∀ (code : Byte) (h : BankHeader), code = 0 ∧ h = s.banks.active.header ∨ code = 1 ∧ h = s.banks.shadow.header →
      exec (.readEntry m seq [code, 0xFF]) s =
        .next (d.answeredBy m ⟨seq, 0x07, .ok,
          [s.banks.shadowState.code, code, 0xFF] ++
            (tagBytes h.masks[0] ++ tagBytes h.masks[1] ++ tagBytes h.masks[2] ++ tagBytes h.masks[3] ++
              [if h.defaults.a = .pass then 0 else 1, if h.defaults.b = .pass then 0 else 1,
                if h.mgmtPass = .pass then 0 else 1])⟩)) ∧
    (∀ (i : Fin 48) (page : Byte) (select : Payload) (r : Record),
      (select = [0, countByte i.val] ∨
        ∃ h md l, select = [1, r.origin.code, h, md, l] ∧ argTag h md l = some r.tag) →
      s.tags.KeysOk → s.tags.records[i] = some r →
      let head : Payload :=
        [countByte i.val,
          BitVec.ofBool (r.origin == .b) ++ r.freshness.code ++ BitVec.ofBool r.candidate.isSome ++
            BitVec.ofBool r.lastForwarded.isSome ++ BitVec.ofBool r.held.isSome ++ BitVec.ofBool r.bound ++ 1#1]
      (page = 0 →
        exec (.readRecord m seq (page :: select)) s =
          .next (d.answeredBy m ⟨seq, 0x0F, .ok,
            head ++ tagBytes r.tag ++ be32 r.freshUntil ++ be32 (r.lastForwarded.getD 0xFFFFFFFF#32) ++
              be32 r.lastUse ++ [countByte r.candidateCount]⟩)) ∧
      (∀ v, page = 1 ∧ r.held = some v ∨ page = 3 ∧ r.candidate = some v →
        exec (.readRecord m seq (page :: select)) s =
          .next (d.answeredBy m ⟨seq, 0x0F, .ok, head ++ [countByte v.length] ++ v.take 16⟩)) ∧
      (∀ v, page = 2 ∧ r.held = some v ∨ page = 4 ∧ r.candidate = some v →
        exec (.readRecord m seq (page :: select)) s =
          .next (d.answeredBy m ⟨seq, 0x0F, .ok, head ++ [countByte v.length] ++ v.drop 16⟩)) ∧
      ((page = 1 ∨ page = 2) ∧ r.held = none ∨ (page = 3 ∨ page = 4) ∧ r.candidate = none →
        ∃ n b, exec (.readRecord m seq (page :: select)) s =
          .next ({ d with free := n }.answeredBy m ⟨seq, 0x0F, .ok, head ++ [b]⟩))) ∧
    (∀ (i : Fin 48) (page : Byte), page.toNat ≤ 4 → s.tags.records[i] = none →
      exec (.readRecord m seq [page, 0, countByte i.val]) s =
        .next (d.answeredBy m ⟨seq, 0x0F, .ok, [countByte i.val, 0]⟩)) ∧
    (∀ (side : Side) (tag : Tag) (page h md l : Byte), page.toNat ≤ 4 → argTag h md l = some tag →
      (∀ (i : Fin 48) (r : Record), s.tags.records[i] = some r → r.key ≠ (side, tag)) →
      exec (.readRecord m seq [page, 1, side.code, h, md, l]) s =
        .next (d.answeredBy m ⟨seq, 0x0F, .ok, [0xFF, 0]⟩)) ∧
    (∀ first : Byte, first.toNat ≤ 15 →
      exec (.readQueries m seq [first]) s =
        .next (d.answeredBy m ⟨seq, 0x11, .ok,
          be32 s.now ++ [countByte s.proxy.list.length, first] ++
            (s.proxy.list[first.toNat]?.elim [] fun q =>
              tagBytes q.tag ++ [q.target.code] ++ be32 q.deadline ++
                [countByte q.coalesced, q.cls.setWidth 8, countByte q.record.val])⟩))

/-- A command of the owner that the state it finds refuses changes nothing of the steady part but the session and is
answered BUSY or BAD_STATE with the arguments its rule gives: edits, COMMIT and transfers by the shadow state (R120 to
R122, R124, R164, R165, R169), SIDE_CONTROL by the side state (R108, R110), SET_CONFIG (R156), SET_TRIP and
RELEASE_TRIP by the trip state (R139, R140), STORE and RESTART while an image is written (R161, R187). -/
def Obligations.StatesRefuseOwnerCommands : Prop :=
  ∀ (m : Arrival) (seq : Byte) (x : Session) (s : State) (args : Payload) (status : Status), s.HearsOwner m seq x →
    ((∃ tr, s.banks.shadowState = .loading tr) ∧ status = .busy ∨
        s.banks.shadowState = .incomplete ∧ status = .badState →
      (args.length = 13 → s.Answers (.writeEntry m seq args) m seq x 0x08 status []) ∧
        (args.length = 15 → s.Answers (.writeMasksDefaults m seq args) m seq x 0x09 status []) ∧
        s.Answers (.commit m seq []) m seq x 0x0B status []) ∧
    (s.banks.shadowState.isLoading = true →
      s.Answers (.copyActive m seq []) m seq x 0x0A .busy [] ∧
        ∀ count, s.Answers (.loadBegin m seq [count]) m seq x 0x0C .busy []) ∧
    (s.banks.shadowState.isLoading = false →
      (∀ (part b : Byte) (item : Payload), item.length < 19 →
        s.Answers (.loadPart m seq (part :: b :: item)) m seq x 0x0D .badState
          [part, 0, s.banks.shadowState.code]) ∧
        ∀ h l, s.Answers (.loadEnd m seq [h, l]) m seq x 0x0E .badState []) ∧
    (∀ side : Side,
      ((s.ports.get side).state ≠ .off →
        s.Answers (.sideControlOn m seq side.code) m seq x 0x13 .badState
          [side.code, (s.ports.get side).state.code, countByte (s.ports.get side).score]) ∧
      ((s.ports.get side).state ≠ .silent →
        s.Answers (.sideControlRecover m seq side.code) m seq x 0x13 .badState
          [side.code, (s.ports.get side).state.code, countByte (s.ports.get side).score]) ∧
      ((s.ports.get side).state = .off →
        s.Answers (.sideControlOff m seq side.code) m seq x 0x13 .ok
          [side.code, 3, countByte (s.ports.get side).score])) ∧
    (∀ (item vh vl : Byte) (v : BitVec 16) (i : ParamId), ParamId.ofCode item = some i → v = vh ++ vl →
      i.range.1 ≤ v.toNat → v.toNat ≤ i.range.2 →
      ((∃ side, i = .ceiling side ∧ v.toNat < (s.queues.frames.get side).length) ∨
        i = .ownStation ∧ x.owner.toNat = v.toNat) →
      s.Answers (.setConfig m seq [item, vh, vl]) m seq x 0x14 .badState []) ∧
    (s.trip.state = .tripped → args.length = 15 → s.Answers (.setTrip m seq args) m seq x 0x16 .badState [3]) ∧
    (∀ (c : TripConfig) (k : Fin 4) (i : Fin 64), s.trip.state ≠ .tripped → TripConfig.ofBytes args = some c →
      c.sources[k] = none → (s.banks.active.entries[i]).inUse = true → (s.banks.active.entries[i]).trip = some k →
      (∀ (k' : Fin 4) (j : Fin 64), c.sources[k'] = none → (s.banks.active.entries[j]).inUse = true →
        (s.banks.active.entries[j]).trip = some k' → k < k' ∨ k = k' ∧ i ≤ j) →
      s.Answers (.setTrip m seq args) m seq x 0x16 .badState
        [s.trip.state.code, countByte k.val, countByte i.val]) ∧
    (s.trip.state ≠ .tripped →
      s.Answers (.releaseTrip m seq []) m seq x 0x17 .badState [s.trip.state.code]) ∧
    (∀ w, s.image.store = some w →
      s.Answers (.store m seq []) m seq x 0x1B .busy [w.target.code] ∧
        s.Answers (.restart m seq []) m seq x 0x1C .busy [])

/-- Arguments of a length that Table 12-3 does not give the command, and codes, indices and values that its rule admits
not, are answered BAD_ARGUMENT: nothing changes but the owner's session and the counts of delivery and answer (R49,
R86, R111, R120, R121, R140, R148, R154, R156, R158, R159, R164, R176, R177, R194). LOAD_PART alone answers with
arguments, of which the part number is free when none was given (R165, log entry 2, DESIGN CHOICE). That the length is
tested before the state refusals of the command is the model's reading of R154 and R194 (log entry 8, DEDUCED). -/
def Obligations.WrongArgumentsAreRefused : Prop :=
  ∀ (i : Instr) (m : Arrival) (seq code : Byte) (s : State), i.wellFormed = true → i.command = some (m, seq, code) →
    s.Hears m → s.Quiet → s.Room m.side → s.NewCommand m seq →
    (code ∈ ownerCodes → ∃ x, s.agent.session = some x ∧ x.owner = m.source) →
    (1 ≤ code.toNat → code.toNat ≤ 28 → code ≠ 0x0D → i.args.length ∉ argLengths code →
      exec i s = .next ((s.delivered m).answeredBy m ⟨seq, code, .badArgument, []⟩)) ∧
    (code = 0x0D → i.args.length < 2 →
      ∃ n part, (∀ b ∈ i.args.head?, part = b) ∧
        exec i s = .next ({ s.delivered m with free := n }.answeredBy m ⟨seq, code, .badArgument,
          [part, s.banks.shadowState.expectedByte]⟩)) ∧
    (∀ b : Byte,
      (i = .openSession m seq [b] ∧ b = 0 ∨ i = .readStatus m seq [b] ∧ 3 < b.toNat ∨
        i = .clearCounters m seq [b] ∧ 12 < b.toNat ∧ b ≠ 0xFF ∨ i = .readQueries m seq [b] ∧ 15 < b.toNat ∨
        i = .readConfig m seq [b] ∧ 19 < b.toNat ∧ b ≠ 0xFF ∨
        i = .loadBegin m seq [b] ∧ s.banks.shadowState.isLoading = false ∧ (b = 0 ∨ 65 < b.toNat) ∨
        ((i = .sideControlOff m seq b ∨ i = .sideControlOn m seq b ∨ i = .sideControlRecover m seq b) ∧ 1 < b.toNat) ∨
        ∃ c : Byte,
          i = .readCounters m seq [b, c] ∧ (∀ cs ∈ s.counterSet b, cs.length ≤ c.toNat) ∨
          i = .readEntry m seq [b, c] ∧ (1 < b.toNat ∨ 63 < c.toNat ∧ c ≠ 0xFF) ∨
          i = .readEvents m seq [b, c] ∧ (4 < b.toNat ∨ b = 4 ∧ 7 < c.toNat)) →
      exec i s = .next ((s.delivered m).answeredBy m ⟨seq, code, .badArgument, []⟩)) ∧
    (∀ (args : Payload) (arg : Nat → Byte), (∀ n, arg n = args.getD n 0) → args.length ∈ argLengths code →
      (i = .writeEntry m seq args ∧ s.banks.shadowState = .clean ∧
          (63 < (arg 0).toNat ∨ 6 ≤ ((arg 1).extractLsb' 0 3).toNat ∨ 5 ≤ ((arg 2).extractLsb' 2 3).toNat ∨
            (arg 3).getLsbD 7 = true ∨ 5 ≤ ((arg 3).extractLsb' 4 3).toNat ∨ (arg 6).extractLsb' 4 4 ≠ 0) ∨
        i = .writeMasksDefaults m seq args ∧ s.banks.shadowState = .clean ∧
          ((∃ k : Fin 4, (arg (3 * k.val)).extractLsb' 4 4 ≠ 0) ∨ 1 < (arg 12).toNat ∨ 1 < (arg 13).toNat ∨
            1 < (arg 14).toNat) ∨
        i = .readRecord m seq args ∧
          (4 < (arg 0).toNat ∨ 1 < (arg 1).toNat ∨ arg 1 = 0 ∧ (args.length = 6 ∨ 47 < (arg 2).toNat) ∨
            arg 1 = 1 ∧ (args.length = 3 ∨ 1 < (arg 2).toNat ∨ (arg 3).extractLsb' 4 4 ≠ 0)) ∨
        i = .cancelTag m seq args ∧ ((arg 0).extractLsb' 4 4 ≠ 0 ∨ 2 < (arg 3).toNat) ∨
        i = .setConfig m seq args ∧
          (19 < (arg 0).toNat ∨ ∃ p, ParamId.ofCode (arg 0) = some p ∧
            ((arg 1 ++ arg 2).toNat < p.range.1 ∨ p.range.2 < (arg 1 ++ arg 2).toNat)) ∨
        i = .setTrip m seq args ∧ s.trip.state ≠ .tripped ∧
          ((∃ k : Fin 4, arg (3 * k.val) ≠ 0xFF ∧ (23 < (arg (3 * k.val)).toNat ∨ arg (3 * k.val + 2) = 0)) ∨
            (∃ k : Fin 4, arg (3 * k.val) = 0xFF ∧ (arg 12).getLsbD k.val = true) ∨ (arg 12).extractLsb' 4 4 ≠ 0 ∨
            (arg 13 ++ arg 14).toNat < 1 ∨ 10000 < (arg 13 ++ arg 14).toNat) ∨
        (i = .clearEvents m seq args ∨ i = .enableEvents m seq args) ∧
          (3 < (arg 0).toNat ∨ ∃ g : Group, arg 0 = g.code ∧
            (arg 1 ++ arg 2) &&& ~~~(Events.allFlags.get g) ≠ 0)) →
      exec i s = .next ((s.delivered m).answeredBy m ⟨seq, code, .badArgument, []⟩))

/-- SET_CONFIG with a value in range that neither a queue nor the session refuses sets that parameter alone (R156); a
new AGE_LIMIT also re-reads the age deadline of every queued frame of its class, and one already past it leaves as
*stale* or is marked on the line (R83, R84). CLEAR_COUNTERS of one set zeroes that set alone, with FFh all of them,
and touches nothing but counters: not the hit counts, a queue or the session (R14, R159). CLEAR_EVENTS clears the
named flags of one group (R176). ENABLE_EVENTS replaces a group's enables, and when that raises the group its report
is made, and sent, if it is outstanding at once, before the response is composed (R175, R177, R178). Each of the two
is answered with the group as it then stands. That a cleared AGENT set does not count the CLEAR_COUNTERS itself is the
model's inference (log entry 15, DEDUCED). -/
def Obligations.ConfigurationCommands : Prop :=
  ∀ (m : Arrival) (seq : Byte) (x : Session) (s d : State), s.HearsOwner m seq x → d = s.delivered m →
    (∀ (item vh vl : Byte) (v : BitVec 16) (i : ParamId), ParamId.ofCode item = some i → v = vh ++ vl →
      i.range.1 ≤ v.toNat → v.toNat ≤ i.range.2 →
      (∀ side, i = .ceiling side → (s.queues.frames.get side).length ≤ v.toNat) →
      (i = .ownStation → x.owner.toNat ≠ v.toNat) →
      let r : Response := ⟨seq, 0x14, .ok, [item, vh, vl]⟩
      ∃ t p, exec (.setConfig m seq [item, vh, vl]) s = .next t ∧ p.value i = v ∧
        (∀ j, j ≠ i → p.value j = s.agent.params.value j) ∧
        ((∀ c, i ≠ .ageLimit c) → s.Quiet → { d with agent := { d.agent with params := p } }.Room m.side →
          State.Leaves ({ d with agent := { d.agent with params := p } }.queueResponse m r) t []) ∧
        (∀ c, i = .ageLimit c →
          let aged : QFrame → Bool := fun y =>
            y.frame.cls == c && v != 0 && decide (v.toNat ≤ (s.now - y.queueTime).toNat)
          let reread : QFrame → QFrame := fun y =>
            if y.frame.cls = c then
              { y with ageDeadline := if v = 0 then none else some (y.queueTime + v.setWidth 32) }
            else y
          let gone : Side → Nat := fun sd => (s.queues.frames.get sd).countP fun y => aged y && !y.onLine
          let kept : Side → List QFrame := fun sd =>
            (((s.queues.frames.get sd).filter fun y => !(aged y && !y.onLine)).map reread).map fun y =>
              if aged y && y.mark == .none then { y with mark := .stale } else y
          let counts : Side → QueueCounters := fun sd =>
            { s.queues.counters.get sd with stale := satAdd (s.queues.counters.get sd).stale (gone sd) }
          let u : State := { d with
            agent := { d.agent with params := p }
            queues := { frames := ⟨kept .a, kept .b⟩, counters := ⟨counts .a, counts .b⟩ } }
          (0 < gone .a + gone .b → t.events.has .staleDrop = true) ∧
          (s.Unreported → u.Room m.side →
            (u.queueResponse m r).Leaves t (if 0 < gone .a + gone .b then [.staleDrop] else []))) ∧
        t.steady = { s.steady with params := p, session := some (x.answered s.now m.side r) }) ∧
    (∀ k : Fin 13, s.Quiet → s.Room m.side →
      exec (.clearCounters m seq [countByte k.val]) s =
        .next ((d.clearSet k.val).answeredBy m ⟨seq, 0x06, .ok, []⟩) ∧
      (d.clearSet k.val).uncounted = d.uncounted ∧
      ∀ (j : Fin 13) (cs : List Counter), d.counterSet (countByte j.val) = some cs →
        (d.clearSet k.val).counterSet (countByte j.val) =
          some (if j = k then List.replicate cs.length 0 else cs)) ∧
    (s.Quiet → s.Room m.side →
      exec (.clearCounters m seq [0xFF]) s = .next (d.uncounted.answeredBy m ⟨seq, 0x06, .ok, []⟩)) ∧
    (∀ (g : Group) (h l : Byte), (h ++ l) &&& ~~~(Events.allFlags.get g) = 0 → s.Quiet → s.Room m.side →
      ∃ flags, flags = s.events.flags.get g &&& ~~~(h ++ l) ∧
        exec (.clearEvents m seq [g.code, h, l]) s =
          .next ({ d with events := { d.events with flags := d.events.flags.set g flags } }.answeredBy m
            ⟨seq, 0x19, .ok,
              [g.code] ++ be16 flags ++ be16 (s.events.enables.get g) ++
                [if flags &&& s.events.enables.get g = 0 then 0 else 1,
                  countByte (s.agent.params.levels.get g)]⟩)) ∧
    ∀ (g : Group) (h l : Byte), (h ++ l) &&& ~~~(Events.allFlags.get g) = 0 →
      let shown : BitVec 16 → Response := fun flags =>
        ⟨seq, 0x1A, .ok,
          [g.code] ++ be16 flags ++ be16 (h ++ l) ++
            [if flags &&& (h ++ l) = 0 then 0 else 1, countByte (s.agent.params.levels.get g)]⟩
      let on : Events := { d.events with enables := d.events.enables.set g (h ++ l) }
      let raises : Prop := s.events.raised g = false ∧ on.raised g = true ∧ s.agent.params.reportStation ≠ 4095
      let r : Report :=
        { seq := s.events.nextSeq
          group := g
          level := s.agent.params.levels.get g
          snapshot := s.events.flags.get g
          time := s.now
          outstanding := s.events.reports.isEmpty
          sends := if s.events.reports.isEmpty then 1 else 0
          retry := if s.events.reports.isEmpty then some (s.now + 250) else none
          making := false }
      let made : Events :=
        { on with
          reports := insertReport r s.events.reports
          nextSeq := s.events.nextSeq + 1
          counters :=
            { s.events.counters with
              created := bump s.events.counters.created
              sends := if s.events.reports.isEmpty then bump s.events.counters.sends else s.events.counters.sends } }
      (¬raises → s.Quiet → s.Room m.side →
        exec (.enableEvents m seq [g.code, h, l]) s =
          .next ({ d with events := on }.answeredBy m (shown (s.events.flags.get g)))) ∧
      (raises → s.Quiet → s.events.reports ≠ [] → s.events.reports.length < 8 → s.Room m.side →
        exec (.enableEvents m seq [g.code, h, l]) s =
          .next ({ d with events := made }.answeredBy m (shown (s.events.flags.get g)))) ∧
      (raises → s.events.reports = [] → s.Room s.agent.params.reportSide →
        ({ d with events := made }.enqueue s.agent.params.reportSide (r.sent s.agent.params 1)).Room m.side →
        exec (.enableEvents m seq [g.code, h, l]) s =
          .next (({ d with events := made }.enqueue s.agent.params.reportSide
            (r.sent s.agent.params 1)).answeredBy m (shown (s.events.flags.get g)))) ∧
      (raises → s.events.reports = [] → (s.ports.get s.agent.params.reportSide).state.accepts = true →
        ¬s.Room s.agent.params.reportSide →
        (∀ y ∈ s.queues.frames.get s.agent.params.reportSide, y.frame.cls < s.agent.params.mgmtClass →
          y.onLine = true) →
        48 ≤ s.queues.frames.a.length + s.queues.frames.b.length →
        ∃ t, exec (.enableEvents m seq [g.code, h, l]) s = .next t ∧
          t.steady =
            { s.steady with
              session := some (x.answered s.now m.side
                (shown (if g = .traffic then s.events.flags.traffic ||| 1 else s.events.flags.get g))) }) ∧
      ∃ t answer, exec (.enableEvents m seq [g.code, h, l]) s = .next t ∧ t.events.enables.get g = h ++ l ∧
        t.steady = { s.steady with session := some (x.answered s.now m.side answer) }

/-- RESTART from the owner with no write in progress empties queues, tag memory and outstanding list, aborts attempts
and an open transfer, takes every side that is not OFF to ACTIVE with score 0, and keeps banks, hits, trip unit,
parameters, session and image (R161, Table 8-9). -/
def Obligations.RestartKeepsTheConfiguration : Prop :=
  ∀ (m : Arrival) (seq : Byte) (x : Session) (s : State), s.HearsOwner m seq x → s.image.store = none →
    let restarted : PortView → PortView := fun v =>
      { v with state := if v.state = .off then .off else .active, score := 0, attempt := none, recovery := none }
    ∃ t, exec (.restart m seq []) s = .next t ∧
      (s.banks.shadowState.isLoading = true → t.events.has .loadAborted = true) ∧
      (∀ sd, ∀ y ∈ t.queues.frames.get sd, y.onLine = false ∧ y.queueTime = s.now ∧ y.frame.traffic = false) ∧
      (∀ sd, (t.queues.counters.get sd).purgedRestart =
        satAdd (s.queues.counters.get sd).purgedRestart (s.queues.frames.get sd).length) ∧
      (s.Unreported →
        t.queues.frames.get m.side.far = [] ∧
          t.events.reports = s.events.reports.map (fun r =>
            if r.outstanding then { r with retry := some (s.now + 250) } else r) ∧
          t.events.enables = s.events.enables ∧ t.events.counters = s.events.counters ∧
          ∀ f, f ≠ .loadAborted ∨ s.banks.shadowState.isLoading = false → t.events.has f = s.events.has f) ∧
      t.steady =
        { s.steady with
          tags := { s.tags with records := Vector.replicate 48 none }
          proxy := { s.proxy with list := [] }
          portA := restarted s.ports.a.view
          portB := restarted s.ports.b.view
          shadowState := if s.banks.shadowState.isLoading then .incomplete else s.banks.shadowState
          session := some (x.answered s.now m.side ⟨seq, 0x1C, .ok, []⟩) }

/-! ## Events and reports -/

/-- Setting a flag sets that flag and no other. A group that was raised, or is not raised by it, makes no report; a
group that becomes raised makes one, with the next sequence number and its level, when REPORT_STATION is a station,
and none when it is 4095. A report made into an empty list is outstanding (R174, R175, R178). Into a full list it
takes the place of the newest report of the lowest level not outstanding, when its own is higher, else it is
discarded; either way the discard is counted and REPORT_DISCARDED then set (R179). After the event the report's
snapshot holds the group's flags; an outstanding one has been sent (R180, Table 10-2), here for a bad frame (R97). -/
def Obligations.RaisedGroupsMakeOneReport : Prop :=
  (∀ (p : Params) (now : CTime) (f : Flag) (ev : Events),
    let ev1 := ev.mark f
    (∀ g : Flag, ev1.has g = (ev.has g || g == f)) ∧
    (ev.raised f.group = true ∨ ev1.raised f.group = false ∨ p.reportStation = 4095 → ev.setFlag p now f = ev1) ∧
    (ev.raised f.group = false → ev1.raised f.group = true → p.reportStation ≠ 4095 → ev.reports.length < 8 →
      ∃ r, ev.setFlag p now f =
          { ev1 with
            reports := insertReport r ev.reports
            nextSeq := ev.nextSeq + 1
            counters := { ev.counters with created := bump ev.counters.created } } ∧
        r.seq = ev.nextSeq ∧ r.group = f.group ∧ r.level = p.levels.get f.group ∧ r.time = now ∧
        r.outstanding = ev.reports.isEmpty ∧ r.sends = 0) ∧
    (ev.raised f.group = false → ev1.raised f.group = true → p.reportStation ≠ 4095 → ev.reports.length = 8 →
      ∀ (pre post : List Report) (y : Report), ev.reports = pre ++ y :: post → y.outstanding = false →
        (∀ z ∈ ev.reports, z.outstanding = false → y.level ≤ z.level) →
        (∀ z ∈ post, z.outstanding = false → z.level ≠ y.level) →
        ∃ r, r.seq = ev.nextSeq ∧ r.group = f.group ∧ r.level = p.levels.get f.group ∧ r.time = now ∧
          r.outstanding = false ∧ r.sends = 0 ∧
          ev.setFlag p now f =
            { ev1 with
              reports := if y.level < p.levels.get f.group then insertReport r (pre ++ post) else ev.reports
              nextSeq := ev.nextSeq + 1
              counters :=
                { ev.counters with
                  created := bump ev.counters.created
                  discarded := bump ev.counters.discarded } }.setFlag p now .reportDiscarded)) ∧
  ∀ (side : Side) (bytes : List Byte) (s : State), s.Receives side → readFrame bytes = none → s.Quiet →
    s.events.raised .port = false → (s.events.enables.port &&& (Flag.badFrame side).bit) ≠ 0 →
    s.agent.params.reportStation ≠ 4095 → s.events.reports.length < 8 →
    (s.events.reports = [] → s.Room s.agent.params.reportSide) →
    let first := s.events.reports.isEmpty
    let r : Report :=
      { seq := s.events.nextSeq
        group := .port
        level := s.agent.params.levels.port
        snapshot := s.events.flags.port ||| (Flag.badFrame side).bit
        time := s.now
        outstanding := first
        sends := if first then 1 else 0
        retry := if first then some (s.now + 250) else none
        making := false }
    let counted : State := { s with
      ports := s.ports.modify side fun p =>
        { p with
          acknowledged := false
          counters := { p.counters with badFrame := bump p.counters.badFrame } }
      events :=
        { s.events.mark (.badFrame side) with
          reports := insertReport r s.events.reports
          nextSeq := s.events.nextSeq + 1
          counters :=
            { s.events.counters with
              created := bump s.events.counters.created
              sends := if first then bump s.events.counters.sends else s.events.counters.sends } } }
    exec (.reception side bytes) s =
      .next (if first then counted.enqueue s.agent.params.reportSide (r.sent s.agent.params 1) else counted)

/-- An ACK from REPORT_STATION with the outstanding report's sequence number settles it, wherever in the list it stands,
and the first report left is then sent; any other ACK, and any while the list is empty, changes nothing but the
ignored-ACK count (R180, R182). RETRY_DEADLINE sends the outstanding report again, or gives it up after 4 sends and
sends the first report left; with REPORT_STATION 4095 a send composes no frame and the list is given up (R181). -/
def Obligations.ReportsAreSettled : Prop :=
  (∀ (m : Arrival) (seq : Byte) (s : State), s.Hears m → s.Quiet →
    let ignored : State := { s.handed m with
      events :=
        { s.events with counters := { s.events.counters with ignoredAck := bump s.events.counters.ignoredAck } } }
    (s.events.reports = [] → exec (.ack m seq) s = .next ignored) ∧
    ∀ (pre post : List Report) (r : Report), s.events.reports = pre ++ r :: post → r.outstanding = true →
      (∀ y ∈ pre ++ post, y.outstanding = false) →
      (m.source ≠ s.agent.params.reportStation ∨ r.seq ≠ seq → exec (.ack m seq) s = .next ignored) ∧
      (m.source = s.agent.params.reportStation → r.seq = seq → pre ++ post = [] →
        exec (.ack m seq) s =
          .next { s.handed m with
            events :=
              { s.events with
                reports := []
                counters := { s.events.counters with acknowledged := bump s.events.counters.acknowledged } } }) ∧
      (∀ (y : Report) (ys : List Report), m.source = s.agent.params.reportStation → r.seq = seq →
        pre ++ post = y :: ys → s.Room s.agent.params.reportSide →
        exec (.ack m seq) s =
          .next { (s.handed m).enqueue s.agent.params.reportSide (y.sent s.agent.params 1) with
            events :=
              { s.events with
                reports := { y with outstanding := true, sends := 1, retry := some (s.now + 250) } :: ys
                counters :=
                  { s.events.counters with
                    acknowledged := bump s.events.counters.acknowledged
                    sends := bump s.events.counters.sends } } })) ∧
  ∀ (pre post : List Report) (r : Report) (d : CTime) (s : State), s.phase = .running → s.Quiet →
    s.events.reports = pre ++ r :: post → r.outstanding = true → (∀ y ∈ pre ++ post, y.outstanding = false) →
    r.retry = some d → reached s.now d = true →
    (s.agent.params.reportStation ≠ 4095 → s.Room s.agent.params.reportSide → r.sends < 4 →
      exec .retryDeadline s =
        .next
          { s.enqueue s.agent.params.reportSide (r.sent s.agent.params (r.sends + 1)) with
            events :=
              { s.events with
                reports := pre ++ { r with sends := r.sends + 1, retry := some (s.now + 250) } :: post
                counters := { s.events.counters with sends := bump s.events.counters.sends } } }) ∧
    (r.sends = 4 → pre ++ post = [] →
      exec .retryDeadline s =
        .next
          { s with
            events :=
              { s.events with
                reports := []
                counters := { s.events.counters with givenUp := bump s.events.counters.givenUp } } }) ∧
    (∀ (y : Report) (ys : List Report), s.agent.params.reportStation ≠ 4095 → r.sends = 4 → pre ++ post = y :: ys →
      s.Room s.agent.params.reportSide →
      exec .retryDeadline s =
        .next
          { s.enqueue s.agent.params.reportSide (y.sent s.agent.params 1) with
            events :=
              { s.events with
                reports := { y with outstanding := true, sends := 1, retry := some (s.now + 250) } :: ys
                counters :=
                  { s.events.counters with
                    givenUp := bump s.events.counters.givenUp
                    sends := bump s.events.counters.sends } } }) ∧
    (s.agent.params.reportStation = 4095 → r.sends ≤ 4 →
      exec .retryDeadline s =
        .next
          { s with
            events :=
              { s.events with
                reports := []
                counters :=
                  { s.events.counters with
                    givenUp := satAdd s.events.counters.givenUp s.events.reports.length } } })

/-! ## The image store -/

/-- STORE from the owner in IDLE snapshots the configuration and makes the target slot, which does not hold the newest
VALID image, DAMAGED (R187). STORE_COMPLETION, 200 ms on or later, makes it VALID with STORE_DONE set, or leaves it
DAMAGED with STORE_FAILED set; the other slot never changes (R188). What the cells of the slot hold during the write and
after a failed verify is the model's choice (log entry 12, DESIGN CHOICE); bytes 5 to 14 of the response are left
open. -/
def Obligations.StoresRunToTheirEnd : Prop :=
  (∀ (m : Arrival) (seq : Byte) (x : Session) (s : State) (target : SlotId) (next : BitVec 32),
    s.HearsOwner m seq x → s.image.store = none →
    (s.image.newest = none → target = .zero ∧ next = 1) →
    (∀ i img, s.image.newest = some (i, img) → target = i.other ∧ next = img.seq + 1) →
    let snap : Image := { bank := s.banks.active, params := s.agent.params, enables := s.events.enables,
                          trip := s.trip.config, seq := next }
    ∃ t args, exec (.store m seq []) s = .next t ∧ args.length = 15 ∧ args.take 5 = target.code :: be32 next ∧
      (s.Quiet → s.Room m.side →
        ∃ n, State.Leaves ({ s.delivered m with free := n }.queueResponse m ⟨seq, 0x1B, .ok, args⟩) t []) ∧
      t.steady =
        { s.steady with
          image :=
            { s.image.withSlot target ⟨.damaged, some ⟨false, false, false, snap⟩⟩ with
              store := some { target := target, snapshot := snap, since := s.now } }
          session := some (x.answered s.now m.side ⟨seq, 0x1B, .ok, args⟩) }) ∧
  ∀ (x : Storing) (s : State), s.phase = .running → s.image.store = some x → 200 ≤ (s.now - x.since).toNat →
    (∃ t, exec (.storeCompletion true) s = .next t ∧ t.events.has .storeDone = true ∧
      (s.Unreported → s.Leaves t [.storeDone]) ∧
      t.steady =
        { s.steady with
          image :=
            { s.image.withSlot x.target ⟨.valid, some ⟨true, true, true, x.snapshot⟩⟩ with store := none } }) ∧
    (∃ t, exec (.storeCompletion false) s = .next t ∧ t.events.has .storeFailed = true ∧
      (s.Unreported → s.Leaves t [.storeFailed]) ∧
      t.steady = { s.steady with image := { s.image with store := none } })

/-! ## Encodings -/

/-- Every frame the part can hold is read back from the bytes a transmitter sends for it, and steering entries and bytes
of Table 12-5 agree both ways: what an entry is written to is read as it, and what is read as an entry is written so
(R193, R194). -/
def Obligations.FramesAndEntriesReadBack : Prop :=
  (∀ f : Frame, f.payload.length ≤ Config.payload → readFrame f.bytes = some f) ∧
    ∀ (e : Entry) (bytes : Payload), Entry.ofBytes bytes = some e ↔ e.bytes = bytes

/-- A row that carries a message is what RECEPTION makes of the message's frame: decoding the line's bytes, the command
code and the message type gives the row, in every state. That a row stands for the arrival of its frame is the model's
reading of the command table (log entry 4, DEDUCED). -/
def Obligations.MessagesOnTheWireAreTheirRows : Prop :=
  ∀ (i : Instr) (m : Arrival) (toAll : Bool) (payload : Payload) (s : State), i.wellFormed = true →
    i.message = some (m, toAll, payload) → s.agent.params.ownStation ≠ stationBroadcast →
    exec (.reception m.side
      (Frame.bytes
        { body := .mgmt m.reply (if toAll then stationBroadcast else s.agent.params.ownStation) m.source
          cls := m.cls
          hop := m.hop
          payload := payload })) s = exec i s

/-! ## Invariants that every step keeps -/

/-- The pool and the ceilings hold after every step, and the queues stay in order (R70, R72, R73). -/
def Obligations.QueuesStayInBounds : Prop :=
  ∀ s t : State, s.PoolOk → s.OrderOk → step s = .next t → t.PoolOk ∧ t.OrderOk

/-- After every step one frame is on the line just while an attempt is in progress, a side that takes no frames has an
empty queue, the score goes with the side state, and only a SILENT side waits to recover (R78, R90, R104 to R107). -/
def Obligations.PortsAgreeWithTheirQueues : Prop :=
  ∀ s t : State, s.LineOk → step s = .next t → t.LineOk

/-- After every step ISOL is high just while TRIPPED, a window runs just while COLLECTING, the unit is DISARMED just
while nothing is required, and the asserted set goes with the state (R134 to R141). -/
def Obligations.TripUnitStaysCoherent : Prop :=
  ∀ s t : State, s.trip.Coherent → step s = .next t → t.trip.Coherent

/-- After every step no two records have one key, at most 16 queries are outstanding with one entry for a key, and the
bound records are just those the entries name (R33, R39, R52). -/
def Obligations.RecordsAndQueriesStayBound : Prop :=
  ∀ s t : State, s.RecordsOk → step s = .next t → t.RecordsOk

/-- After every step the report list holds at most 8 reports in order of level, exactly one of them outstanding unless
it is empty, and the outstanding one has been sent and waits (R178 to R181). -/
def Obligations.ReportsStayInOrder : Prop :=
  ∀ s t : State, s.ReportsOk → step s = .next t → t.ReportsOk

/-- After every step the session's owner is a station other than the coupler, and a transfer is open in a session only,
with no more parts applied than declared (R147, R156, R163); and each parameter is in its range, also in the slots, a
slot is VALID only with a complete image, and the slot being written is DAMAGED (R156, R186, R187). -/
def Obligations.SessionsAndSettingsStayProper : Prop :=
  ∀ s t : State, s.SessionOk → s.SettingsOk → step s = .next t → t.SessionOk ∧ t.SettingsOk

/-- After every step every queued or held payload fits a frame, and the cached response fits a message: no readout is
longer than 20 bytes (R96, R146). -/
def Obligations.PayloadsStayInBounds : Prop :=
  ∀ s t : State, s.PayloadsOk → step s = .next t → t.PayloadsOk

/-- The reset state meets every invariant that the statements above keep, and it is where a start-up with the straps low
leads from any state whose slots are BLANK, less the free bytes counted and the commands that wait (the model's
choice, log entry 1, DESIGN CHOICE). -/
def Obligations.ResetIsAStartUpThatMeetsTheInvariants : Prop :=
  (State.reset.PoolOk ∧ State.reset.OrderOk ∧ State.reset.LineOk ∧ State.reset.trip.Coherent ∧
    State.reset.RecordsOk ∧ State.reset.ReportsOk ∧ State.reset.SessionOk ∧ State.reset.SettingsOk ∧
    State.reset.PayloadsOk ∧ State.reset.HeldOk) ∧
  ∀ (c0 c1 : Bool) (s : State), s.image.slot0.cells = none → s.image.slot1.cells = none →
    ∃ u, exec (.startUp 0 false c0 c1) s = .next u ∧
      exec .startingEnd u = .next { State.reset with free := s.free, pending := s.pending }

end
end

