-- ==== Sys2Proof/Laws/State.lean ====
section
/-! SUPPORT. What each named update of the state does to each field, by computation, so that no proof unfolds a record
update; and the same for the two sides and the four groups. -/

namespace Sys2Proof.Machine

/-! ## Sides and groups -/

@[simp] theorem far_far (side : Side) : side.far.far = side := by cases side <;> rfl
@[simp] theorem far_ne (side : Side) : side.far ≠ side := by cases side <;> decide
@[simp] theorem ne_far (side : Side) : side ≠ side.far := by cases side <;> decide

/-- A side is the named one or the far one. -/
theorem Side.eq_or_far (x side : Side) : x = side ∨ x = side.far := by cases x <;> cases side <;> simp [Side.far]

variable {α : Type} (p : PerSide α) (side : Side) (x : α) (f : α → α)

@[simp] theorem PerSide.get_set : (p.set side x).get side = x := by cases side <;> rfl
@[simp] theorem PerSide.get_far_set : (p.set side x).get side.far = p.get side.far := by cases side <;> rfl
@[simp] theorem PerSide.get_set_far : (p.set side.far x).get side = p.get side := by cases side <;> rfl
@[simp] theorem PerSide.get_modify : (p.modify side f).get side = f (p.get side) := by cases side <;> rfl
@[simp] theorem PerSide.get_far_modify : (p.modify side f).get side.far = p.get side.far := by cases side <;> rfl
@[simp] theorem PerSide.get_modify_far : (p.modify side.far f).get side = p.get side := by cases side <;> rfl
@[simp] theorem PerSide.modify_id : (p.modify side fun y => y) = p := by cases side <;> rfl
@[simp] theorem PerSide.modify_modify (g : α → α) :
    (p.modify side f).modify side g = p.modify side fun y => g (f y) := by cases side <;> rfl

/-- A change of one side read at any side. -/
theorem PerSide.get_modify_at (side' : Side) :
    (p.modify side f).get side' = if side' = side then f (p.get side') else p.get side' := by
  cases side <;> cases side' <;> rfl

/-- Equal at both sides is equal. -/
theorem PerSide.ext_get {p q : PerSide α} (h : ∀ side, p.get side = q.get side) : p = q := by
  cases p; cases q; simpa [PerSide.get] using And.intro (h .a) (h .b)

@[simp] theorem PerGroup.get_set (p : PerGroup α) (g : Group) (x : α) : (p.set g x).get g = x := by cases g <;> rfl

/-- A change of one group read at any group. -/
theorem PerGroup.get_set_at (p : PerGroup α) (g g' : Group) (x : α) :
    (p.set g x).get g' = if g' = g then x else p.get g' := by cases g <;> cases g' <;> rfl

/-! ## Counts -/

/-- A saturating sum, read as a number. -/
@[simp] theorem satAdd_toNat (c : Counter) (n : Nat) : (satAdd c n).toNat = min (c.toNat + n) 4294967295 := by
  simp only [satAdd, BitVec.toNat_ofNat]; omega

@[simp] theorem satAdd_zero (c : Counter) : satAdd c 0 = c := by
  apply BitVec.eq_of_toNat_eq; rw [satAdd_toNat]; have := c.isLt; omega

/-- Two saturating sums are one. -/
@[simp] theorem satAdd_satAdd (c : Counter) (n k : Nat) : satAdd (satAdd c n) k = satAdd c (n + k) := by
  apply BitVec.eq_of_toNat_eq; simp only [satAdd_toNat]; omega

/-! ## Named updates, field by field -/

variable (s : State)

@[simp] theorem State.onPort_phase (side : Side) (f : Port → Port) : (s.onPort side f).phase = s.phase := rfl
@[simp] theorem State.onPort_now (side : Side) (f : Port → Port) : (s.onPort side f).now = s.now := rfl
@[simp] theorem State.onPort_banks (side : Side) (f : Port → Port) : (s.onPort side f).banks = s.banks := rfl
@[simp] theorem State.onPort_tags (side : Side) (f : Port → Port) : (s.onPort side f).tags = s.tags := rfl
@[simp] theorem State.onPort_proxy (side : Side) (f : Port → Port) : (s.onPort side f).proxy = s.proxy := rfl
@[simp] theorem State.onPort_queues (side : Side) (f : Port → Port) : (s.onPort side f).queues = s.queues := rfl
@[simp] theorem State.onPort_ports (side : Side) (f : Port → Port) :
    (s.onPort side f).ports = s.ports.modify side f := rfl
@[simp] theorem State.onPort_trip (side : Side) (f : Port → Port) : (s.onPort side f).trip = s.trip := rfl
@[simp] theorem State.onPort_agent (side : Side) (f : Port → Port) : (s.onPort side f).agent = s.agent := rfl
@[simp] theorem State.onPort_events (side : Side) (f : Port → Port) : (s.onPort side f).events = s.events := rfl
@[simp] theorem State.onPort_image (side : Side) (f : Port → Port) : (s.onPort side f).image = s.image := rfl
@[simp] theorem State.onPort_free (side : Side) (f : Port → Port) : (s.onPort side f).free = s.free := rfl
@[simp] theorem State.onPort_pending (side : Side) (f : Port → Port) : (s.onPort side f).pending = s.pending := rfl

@[simp] theorem State.countPort_phase (side : Side) (f : PortCounters → PortCounters) :
    (s.countPort side f).phase = s.phase := rfl
@[simp] theorem State.countPort_now (side : Side) (f : PortCounters → PortCounters) :
    (s.countPort side f).now = s.now := rfl
@[simp] theorem State.countPort_banks (side : Side) (f : PortCounters → PortCounters) :
    (s.countPort side f).banks = s.banks := rfl
@[simp] theorem State.countPort_tags (side : Side) (f : PortCounters → PortCounters) :
    (s.countPort side f).tags = s.tags := rfl
@[simp] theorem State.countPort_proxy (side : Side) (f : PortCounters → PortCounters) :
    (s.countPort side f).proxy = s.proxy := rfl
@[simp] theorem State.countPort_queues (side : Side) (f : PortCounters → PortCounters) :
    (s.countPort side f).queues = s.queues := rfl
@[simp] theorem State.countPort_ports (side : Side) (f : PortCounters → PortCounters) :
    (s.countPort side f).ports = s.ports.modify side fun p => { p with counters := f p.counters } := rfl
@[simp] theorem State.countPort_trip (side : Side) (f : PortCounters → PortCounters) :
    (s.countPort side f).trip = s.trip := rfl
@[simp] theorem State.countPort_agent (side : Side) (f : PortCounters → PortCounters) :
    (s.countPort side f).agent = s.agent := rfl
@[simp] theorem State.countPort_events (side : Side) (f : PortCounters → PortCounters) :
    (s.countPort side f).events = s.events := rfl
@[simp] theorem State.countPort_image (side : Side) (f : PortCounters → PortCounters) :
    (s.countPort side f).image = s.image := rfl
@[simp] theorem State.countPort_free (side : Side) (f : PortCounters → PortCounters) :
    (s.countPort side f).free = s.free := rfl
@[simp] theorem State.countPort_pending (side : Side) (f : PortCounters → PortCounters) :
    (s.countPort side f).pending = s.pending := rfl

@[simp] theorem State.onQueue_phase (side : Side) (f : List QFrame → List QFrame) :
    (s.onQueue side f).phase = s.phase := rfl
@[simp] theorem State.onQueue_now (side : Side) (f : List QFrame → List QFrame) : (s.onQueue side f).now = s.now := rfl
@[simp] theorem State.onQueue_banks (side : Side) (f : List QFrame → List QFrame) :
    (s.onQueue side f).banks = s.banks := rfl
@[simp] theorem State.onQueue_tags (side : Side) (f : List QFrame → List QFrame) :
    (s.onQueue side f).tags = s.tags := rfl
@[simp] theorem State.onQueue_proxy (side : Side) (f : List QFrame → List QFrame) :
    (s.onQueue side f).proxy = s.proxy := rfl
@[simp] theorem State.onQueue_queues (side : Side) (f : List QFrame → List QFrame) :
    (s.onQueue side f).queues = { s.queues with frames := s.queues.frames.modify side f } := rfl
@[simp] theorem State.onQueue_ports (side : Side) (f : List QFrame → List QFrame) :
    (s.onQueue side f).ports = s.ports := rfl
@[simp] theorem State.onQueue_trip (side : Side) (f : List QFrame → List QFrame) :
    (s.onQueue side f).trip = s.trip := rfl
@[simp] theorem State.onQueue_agent (side : Side) (f : List QFrame → List QFrame) :
    (s.onQueue side f).agent = s.agent := rfl
@[simp] theorem State.onQueue_events (side : Side) (f : List QFrame → List QFrame) :
    (s.onQueue side f).events = s.events := rfl
@[simp] theorem State.onQueue_image (side : Side) (f : List QFrame → List QFrame) :
    (s.onQueue side f).image = s.image := rfl
@[simp] theorem State.onQueue_free (side : Side) (f : List QFrame → List QFrame) :
    (s.onQueue side f).free = s.free := rfl
@[simp] theorem State.onQueue_pending (side : Side) (f : List QFrame → List QFrame) :
    (s.onQueue side f).pending = s.pending := rfl

@[simp] theorem State.countQueue_phase (side : Side) (f : QueueCounters → QueueCounters) :
    (s.countQueue side f).phase = s.phase := rfl
@[simp] theorem State.countQueue_now (side : Side) (f : QueueCounters → QueueCounters) :
    (s.countQueue side f).now = s.now := rfl
@[simp] theorem State.countQueue_banks (side : Side) (f : QueueCounters → QueueCounters) :
    (s.countQueue side f).banks = s.banks := rfl
@[simp] theorem State.countQueue_tags (side : Side) (f : QueueCounters → QueueCounters) :
    (s.countQueue side f).tags = s.tags := rfl
@[simp] theorem State.countQueue_proxy (side : Side) (f : QueueCounters → QueueCounters) :
    (s.countQueue side f).proxy = s.proxy := rfl
@[simp] theorem State.countQueue_queues (side : Side) (f : QueueCounters → QueueCounters) :
    (s.countQueue side f).queues = { s.queues with counters := s.queues.counters.modify side f } := rfl
@[simp] theorem State.countQueue_ports (side : Side) (f : QueueCounters → QueueCounters) :
    (s.countQueue side f).ports = s.ports := rfl
@[simp] theorem State.countQueue_trip (side : Side) (f : QueueCounters → QueueCounters) :
    (s.countQueue side f).trip = s.trip := rfl
@[simp] theorem State.countQueue_agent (side : Side) (f : QueueCounters → QueueCounters) :
    (s.countQueue side f).agent = s.agent := rfl
@[simp] theorem State.countQueue_events (side : Side) (f : QueueCounters → QueueCounters) :
    (s.countQueue side f).events = s.events := rfl
@[simp] theorem State.countQueue_image (side : Side) (f : QueueCounters → QueueCounters) :
    (s.countQueue side f).image = s.image := rfl
@[simp] theorem State.countQueue_free (side : Side) (f : QueueCounters → QueueCounters) :
    (s.countQueue side f).free = s.free := rfl
@[simp] theorem State.countQueue_pending (side : Side) (f : QueueCounters → QueueCounters) :
    (s.countQueue side f).pending = s.pending := rfl

@[simp] theorem State.countClassifier_phase (side : Side) (f : ClassifierCounters → ClassifierCounters) :
    (s.countClassifier side f).phase = s.phase := rfl
@[simp] theorem State.countClassifier_now (side : Side) (f : ClassifierCounters → ClassifierCounters) :
    (s.countClassifier side f).now = s.now := rfl
@[simp] theorem State.countClassifier_banks (side : Side) (f : ClassifierCounters → ClassifierCounters) :
    (s.countClassifier side f).banks = { s.banks with classifier := s.banks.classifier.modify side f } := rfl
@[simp] theorem State.countClassifier_tags (side : Side) (f : ClassifierCounters → ClassifierCounters) :
    (s.countClassifier side f).tags = s.tags := rfl
@[simp] theorem State.countClassifier_proxy (side : Side) (f : ClassifierCounters → ClassifierCounters) :
    (s.countClassifier side f).proxy = s.proxy := rfl
@[simp] theorem State.countClassifier_queues (side : Side) (f : ClassifierCounters → ClassifierCounters) :
    (s.countClassifier side f).queues = s.queues := rfl
@[simp] theorem State.countClassifier_ports (side : Side) (f : ClassifierCounters → ClassifierCounters) :
    (s.countClassifier side f).ports = s.ports := rfl
@[simp] theorem State.countClassifier_trip (side : Side) (f : ClassifierCounters → ClassifierCounters) :
    (s.countClassifier side f).trip = s.trip := rfl
@[simp] theorem State.countClassifier_agent (side : Side) (f : ClassifierCounters → ClassifierCounters) :
    (s.countClassifier side f).agent = s.agent := rfl
@[simp] theorem State.countClassifier_events (side : Side) (f : ClassifierCounters → ClassifierCounters) :
    (s.countClassifier side f).events = s.events := rfl
@[simp] theorem State.countClassifier_image (side : Side) (f : ClassifierCounters → ClassifierCounters) :
    (s.countClassifier side f).image = s.image := rfl
@[simp] theorem State.countClassifier_free (side : Side) (f : ClassifierCounters → ClassifierCounters) :
    (s.countClassifier side f).free = s.free := rfl
@[simp] theorem State.countClassifier_pending (side : Side) (f : ClassifierCounters → ClassifierCounters) :
    (s.countClassifier side f).pending = s.pending := rfl

@[simp] theorem State.countBank_phase (f : BankCounters → BankCounters) : (s.countBank f).phase = s.phase := rfl
@[simp] theorem State.countBank_now (f : BankCounters → BankCounters) : (s.countBank f).now = s.now := rfl
@[simp] theorem State.countBank_banks (f : BankCounters → BankCounters) :
    (s.countBank f).banks = { s.banks with counters := f s.banks.counters } := rfl
@[simp] theorem State.countBank_tags (f : BankCounters → BankCounters) : (s.countBank f).tags = s.tags := rfl
@[simp] theorem State.countBank_proxy (f : BankCounters → BankCounters) : (s.countBank f).proxy = s.proxy := rfl
@[simp] theorem State.countBank_queues (f : BankCounters → BankCounters) : (s.countBank f).queues = s.queues := rfl
@[simp] theorem State.countBank_ports (f : BankCounters → BankCounters) : (s.countBank f).ports = s.ports := rfl
@[simp] theorem State.countBank_trip (f : BankCounters → BankCounters) : (s.countBank f).trip = s.trip := rfl
@[simp] theorem State.countBank_agent (f : BankCounters → BankCounters) : (s.countBank f).agent = s.agent := rfl
@[simp] theorem State.countBank_events (f : BankCounters → BankCounters) : (s.countBank f).events = s.events := rfl
@[simp] theorem State.countBank_image (f : BankCounters → BankCounters) : (s.countBank f).image = s.image := rfl
@[simp] theorem State.countBank_free (f : BankCounters → BankCounters) : (s.countBank f).free = s.free := rfl
@[simp] theorem State.countBank_pending (f : BankCounters → BankCounters) : (s.countBank f).pending = s.pending := rfl

@[simp] theorem State.countProxy_phase (side : Side) (f : ProxyCounters → ProxyCounters) :
    (s.countProxy side f).phase = s.phase := rfl
@[simp] theorem State.countProxy_now (side : Side) (f : ProxyCounters → ProxyCounters) :
    (s.countProxy side f).now = s.now := rfl
@[simp] theorem State.countProxy_banks (side : Side) (f : ProxyCounters → ProxyCounters) :
    (s.countProxy side f).banks = s.banks := rfl
@[simp] theorem State.countProxy_tags (side : Side) (f : ProxyCounters → ProxyCounters) :
    (s.countProxy side f).tags = s.tags := rfl
@[simp] theorem State.countProxy_proxy (side : Side) (f : ProxyCounters → ProxyCounters) :
    (s.countProxy side f).proxy = { s.proxy with counters := s.proxy.counters.modify side f } := rfl
@[simp] theorem State.countProxy_queues (side : Side) (f : ProxyCounters → ProxyCounters) :
    (s.countProxy side f).queues = s.queues := rfl
@[simp] theorem State.countProxy_ports (side : Side) (f : ProxyCounters → ProxyCounters) :
    (s.countProxy side f).ports = s.ports := rfl
@[simp] theorem State.countProxy_trip (side : Side) (f : ProxyCounters → ProxyCounters) :
    (s.countProxy side f).trip = s.trip := rfl
@[simp] theorem State.countProxy_agent (side : Side) (f : ProxyCounters → ProxyCounters) :
    (s.countProxy side f).agent = s.agent := rfl
@[simp] theorem State.countProxy_events (side : Side) (f : ProxyCounters → ProxyCounters) :
    (s.countProxy side f).events = s.events := rfl
@[simp] theorem State.countProxy_image (side : Side) (f : ProxyCounters → ProxyCounters) :
    (s.countProxy side f).image = s.image := rfl
@[simp] theorem State.countProxy_free (side : Side) (f : ProxyCounters → ProxyCounters) :
    (s.countProxy side f).free = s.free := rfl
@[simp] theorem State.countProxy_pending (side : Side) (f : ProxyCounters → ProxyCounters) :
    (s.countProxy side f).pending = s.pending := rfl

@[simp] theorem State.countTag_phase (f : TagCounters → TagCounters) : (s.countTag f).phase = s.phase := rfl
@[simp] theorem State.countTag_now (f : TagCounters → TagCounters) : (s.countTag f).now = s.now := rfl
@[simp] theorem State.countTag_banks (f : TagCounters → TagCounters) : (s.countTag f).banks = s.banks := rfl
@[simp] theorem State.countTag_tags (f : TagCounters → TagCounters) :
    (s.countTag f).tags = { s.tags with counters := f s.tags.counters } := rfl
@[simp] theorem State.countTag_proxy (f : TagCounters → TagCounters) : (s.countTag f).proxy = s.proxy := rfl
@[simp] theorem State.countTag_queues (f : TagCounters → TagCounters) : (s.countTag f).queues = s.queues := rfl
@[simp] theorem State.countTag_ports (f : TagCounters → TagCounters) : (s.countTag f).ports = s.ports := rfl
@[simp] theorem State.countTag_trip (f : TagCounters → TagCounters) : (s.countTag f).trip = s.trip := rfl
@[simp] theorem State.countTag_agent (f : TagCounters → TagCounters) : (s.countTag f).agent = s.agent := rfl
@[simp] theorem State.countTag_events (f : TagCounters → TagCounters) : (s.countTag f).events = s.events := rfl
@[simp] theorem State.countTag_image (f : TagCounters → TagCounters) : (s.countTag f).image = s.image := rfl
@[simp] theorem State.countTag_free (f : TagCounters → TagCounters) : (s.countTag f).free = s.free := rfl
@[simp] theorem State.countTag_pending (f : TagCounters → TagCounters) : (s.countTag f).pending = s.pending := rfl

@[simp] theorem State.countTrip_phase (f : TripCounters → TripCounters) : (s.countTrip f).phase = s.phase := rfl
@[simp] theorem State.countTrip_now (f : TripCounters → TripCounters) : (s.countTrip f).now = s.now := rfl
@[simp] theorem State.countTrip_banks (f : TripCounters → TripCounters) : (s.countTrip f).banks = s.banks := rfl
@[simp] theorem State.countTrip_tags (f : TripCounters → TripCounters) : (s.countTrip f).tags = s.tags := rfl
@[simp] theorem State.countTrip_proxy (f : TripCounters → TripCounters) : (s.countTrip f).proxy = s.proxy := rfl
@[simp] theorem State.countTrip_queues (f : TripCounters → TripCounters) : (s.countTrip f).queues = s.queues := rfl
@[simp] theorem State.countTrip_ports (f : TripCounters → TripCounters) : (s.countTrip f).ports = s.ports := rfl
@[simp] theorem State.countTrip_trip (f : TripCounters → TripCounters) :
    (s.countTrip f).trip = { s.trip with counters := f s.trip.counters } := rfl
@[simp] theorem State.countTrip_agent (f : TripCounters → TripCounters) : (s.countTrip f).agent = s.agent := rfl
@[simp] theorem State.countTrip_events (f : TripCounters → TripCounters) : (s.countTrip f).events = s.events := rfl
@[simp] theorem State.countTrip_image (f : TripCounters → TripCounters) : (s.countTrip f).image = s.image := rfl
@[simp] theorem State.countTrip_free (f : TripCounters → TripCounters) : (s.countTrip f).free = s.free := rfl
@[simp] theorem State.countTrip_pending (f : TripCounters → TripCounters) : (s.countTrip f).pending = s.pending := rfl

@[simp] theorem State.countAgent_phase (f : AgentCounters → AgentCounters) : (s.countAgent f).phase = s.phase := rfl
@[simp] theorem State.countAgent_now (f : AgentCounters → AgentCounters) : (s.countAgent f).now = s.now := rfl
@[simp] theorem State.countAgent_banks (f : AgentCounters → AgentCounters) : (s.countAgent f).banks = s.banks := rfl
@[simp] theorem State.countAgent_tags (f : AgentCounters → AgentCounters) : (s.countAgent f).tags = s.tags := rfl
@[simp] theorem State.countAgent_proxy (f : AgentCounters → AgentCounters) : (s.countAgent f).proxy = s.proxy := rfl
@[simp] theorem State.countAgent_queues (f : AgentCounters → AgentCounters) : (s.countAgent f).queues = s.queues := rfl
@[simp] theorem State.countAgent_ports (f : AgentCounters → AgentCounters) : (s.countAgent f).ports = s.ports := rfl
@[simp] theorem State.countAgent_trip (f : AgentCounters → AgentCounters) : (s.countAgent f).trip = s.trip := rfl
@[simp] theorem State.countAgent_agent (f : AgentCounters → AgentCounters) :
    (s.countAgent f).agent = { s.agent with counters := f s.agent.counters } := rfl
@[simp] theorem State.countAgent_events (f : AgentCounters → AgentCounters) : (s.countAgent f).events = s.events := rfl
@[simp] theorem State.countAgent_image (f : AgentCounters → AgentCounters) : (s.countAgent f).image = s.image := rfl
@[simp] theorem State.countAgent_free (f : AgentCounters → AgentCounters) : (s.countAgent f).free = s.free := rfl
@[simp] theorem State.countAgent_pending (f : AgentCounters → AgentCounters) :
    (s.countAgent f).pending = s.pending := rfl

@[simp] theorem State.countEvents_phase (f : EventCounters → EventCounters) : (s.countEvents f).phase = s.phase := rfl
@[simp] theorem State.countEvents_now (f : EventCounters → EventCounters) : (s.countEvents f).now = s.now := rfl
@[simp] theorem State.countEvents_banks (f : EventCounters → EventCounters) : (s.countEvents f).banks = s.banks := rfl
@[simp] theorem State.countEvents_tags (f : EventCounters → EventCounters) : (s.countEvents f).tags = s.tags := rfl
@[simp] theorem State.countEvents_proxy (f : EventCounters → EventCounters) : (s.countEvents f).proxy = s.proxy := rfl
@[simp] theorem State.countEvents_queues (f : EventCounters → EventCounters) :
    (s.countEvents f).queues = s.queues := rfl
@[simp] theorem State.countEvents_ports (f : EventCounters → EventCounters) : (s.countEvents f).ports = s.ports := rfl
@[simp] theorem State.countEvents_trip (f : EventCounters → EventCounters) : (s.countEvents f).trip = s.trip := rfl
@[simp] theorem State.countEvents_agent (f : EventCounters → EventCounters) : (s.countEvents f).agent = s.agent := rfl
@[simp] theorem State.countEvents_events (f : EventCounters → EventCounters) :
    (s.countEvents f).events = { s.events with counters := f s.events.counters } := rfl
@[simp] theorem State.countEvents_image (f : EventCounters → EventCounters) : (s.countEvents f).image = s.image := rfl
@[simp] theorem State.countEvents_free (f : EventCounters → EventCounters) : (s.countEvents f).free = s.free := rfl
@[simp] theorem State.countEvents_pending (f : EventCounters → EventCounters) :
    (s.countEvents f).pending = s.pending := rfl

@[simp] theorem State.withSession_phase (x : Option Session) : (s.withSession x).phase = s.phase := rfl
@[simp] theorem State.withSession_now (x : Option Session) : (s.withSession x).now = s.now := rfl
@[simp] theorem State.withSession_banks (x : Option Session) : (s.withSession x).banks = s.banks := rfl
@[simp] theorem State.withSession_tags (x : Option Session) : (s.withSession x).tags = s.tags := rfl
@[simp] theorem State.withSession_proxy (x : Option Session) : (s.withSession x).proxy = s.proxy := rfl
@[simp] theorem State.withSession_queues (x : Option Session) : (s.withSession x).queues = s.queues := rfl
@[simp] theorem State.withSession_ports (x : Option Session) : (s.withSession x).ports = s.ports := rfl
@[simp] theorem State.withSession_trip (x : Option Session) : (s.withSession x).trip = s.trip := rfl
@[simp] theorem State.withSession_agent (x : Option Session) :
    (s.withSession x).agent = { s.agent with session := x } := rfl
@[simp] theorem State.withSession_events (x : Option Session) : (s.withSession x).events = s.events := rfl
@[simp] theorem State.withSession_image (x : Option Session) : (s.withSession x).image = s.image := rfl
@[simp] theorem State.withSession_free (x : Option Session) : (s.withSession x).free = s.free := rfl
@[simp] theorem State.withSession_pending (x : Option Session) : (s.withSession x).pending = s.pending := rfl

@[simp] theorem State.withParams_phase (p : Params) : (s.withParams p).phase = s.phase := rfl
@[simp] theorem State.withParams_now (p : Params) : (s.withParams p).now = s.now := rfl
@[simp] theorem State.withParams_banks (p : Params) : (s.withParams p).banks = s.banks := rfl
@[simp] theorem State.withParams_tags (p : Params) : (s.withParams p).tags = s.tags := rfl
@[simp] theorem State.withParams_proxy (p : Params) : (s.withParams p).proxy = s.proxy := rfl
@[simp] theorem State.withParams_queues (p : Params) : (s.withParams p).queues = s.queues := rfl
@[simp] theorem State.withParams_ports (p : Params) : (s.withParams p).ports = s.ports := rfl
@[simp] theorem State.withParams_trip (p : Params) : (s.withParams p).trip = s.trip := rfl
@[simp] theorem State.withParams_agent (p : Params) : (s.withParams p).agent = { s.agent with params := p } := rfl
@[simp] theorem State.withParams_events (p : Params) : (s.withParams p).events = s.events := rfl
@[simp] theorem State.withParams_image (p : Params) : (s.withParams p).image = s.image := rfl
@[simp] theorem State.withParams_free (p : Params) : (s.withParams p).free = s.free := rfl
@[simp] theorem State.withParams_pending (p : Params) : (s.withParams p).pending = s.pending := rfl

@[simp] theorem State.withShadowState_phase (x : ShadowState) : (s.withShadowState x).phase = s.phase := rfl
@[simp] theorem State.withShadowState_now (x : ShadowState) : (s.withShadowState x).now = s.now := rfl
@[simp] theorem State.withShadowState_banks (x : ShadowState) :
    (s.withShadowState x).banks = { s.banks with shadowState := x } := rfl
@[simp] theorem State.withShadowState_tags (x : ShadowState) : (s.withShadowState x).tags = s.tags := rfl
@[simp] theorem State.withShadowState_proxy (x : ShadowState) : (s.withShadowState x).proxy = s.proxy := rfl
@[simp] theorem State.withShadowState_queues (x : ShadowState) : (s.withShadowState x).queues = s.queues := rfl
@[simp] theorem State.withShadowState_ports (x : ShadowState) : (s.withShadowState x).ports = s.ports := rfl
@[simp] theorem State.withShadowState_trip (x : ShadowState) : (s.withShadowState x).trip = s.trip := rfl
@[simp] theorem State.withShadowState_agent (x : ShadowState) : (s.withShadowState x).agent = s.agent := rfl
@[simp] theorem State.withShadowState_events (x : ShadowState) : (s.withShadowState x).events = s.events := rfl
@[simp] theorem State.withShadowState_image (x : ShadowState) : (s.withShadowState x).image = s.image := rfl
@[simp] theorem State.withShadowState_free (x : ShadowState) : (s.withShadowState x).free = s.free := rfl
@[simp] theorem State.withShadowState_pending (x : ShadowState) : (s.withShadowState x).pending = s.pending := rfl

@[simp] theorem State.withReports_phase (rs : List Report) : (s.withReports rs).phase = s.phase := rfl
@[simp] theorem State.withReports_now (rs : List Report) : (s.withReports rs).now = s.now := rfl
@[simp] theorem State.withReports_banks (rs : List Report) : (s.withReports rs).banks = s.banks := rfl
@[simp] theorem State.withReports_tags (rs : List Report) : (s.withReports rs).tags = s.tags := rfl
@[simp] theorem State.withReports_proxy (rs : List Report) : (s.withReports rs).proxy = s.proxy := rfl
@[simp] theorem State.withReports_queues (rs : List Report) : (s.withReports rs).queues = s.queues := rfl
@[simp] theorem State.withReports_ports (rs : List Report) : (s.withReports rs).ports = s.ports := rfl
@[simp] theorem State.withReports_trip (rs : List Report) : (s.withReports rs).trip = s.trip := rfl
@[simp] theorem State.withReports_agent (rs : List Report) : (s.withReports rs).agent = s.agent := rfl
@[simp] theorem State.withReports_events (rs : List Report) :
    (s.withReports rs).events = { s.events with reports := rs } := rfl
@[simp] theorem State.withReports_image (rs : List Report) : (s.withReports rs).image = s.image := rfl
@[simp] theorem State.withReports_free (rs : List Report) : (s.withReports rs).free = s.free := rfl
@[simp] theorem State.withReports_pending (rs : List Report) : (s.withReports rs).pending = s.pending := rfl

@[simp] theorem State.setFlag_phase (f : Flag) : (s.setFlag f).phase = s.phase := rfl
@[simp] theorem State.setFlag_now (f : Flag) : (s.setFlag f).now = s.now := rfl
@[simp] theorem State.setFlag_banks (f : Flag) : (s.setFlag f).banks = s.banks := rfl
@[simp] theorem State.setFlag_tags (f : Flag) : (s.setFlag f).tags = s.tags := rfl
@[simp] theorem State.setFlag_proxy (f : Flag) : (s.setFlag f).proxy = s.proxy := rfl
@[simp] theorem State.setFlag_queues (f : Flag) : (s.setFlag f).queues = s.queues := rfl
@[simp] theorem State.setFlag_ports (f : Flag) : (s.setFlag f).ports = s.ports := rfl
@[simp] theorem State.setFlag_trip (f : Flag) : (s.setFlag f).trip = s.trip := rfl
@[simp] theorem State.setFlag_agent (f : Flag) : (s.setFlag f).agent = s.agent := rfl
@[simp] theorem State.setFlag_events (f : Flag) : (s.setFlag f).events = s.events.setFlag s.agent.params s.now f := rfl
@[simp] theorem State.setFlag_image (f : Flag) : (s.setFlag f).image = s.image := rfl
@[simp] theorem State.setFlag_free (f : Flag) : (s.setFlag f).free = s.free := rfl
@[simp] theorem State.setFlag_pending (f : Flag) : (s.setFlag f).pending = s.pending := rfl

@[simp] theorem State.fixSnapshots_phase : (s.fixSnapshots).phase = s.phase := rfl
@[simp] theorem State.fixSnapshots_now : (s.fixSnapshots).now = s.now := rfl
@[simp] theorem State.fixSnapshots_banks : (s.fixSnapshots).banks = s.banks := rfl
@[simp] theorem State.fixSnapshots_tags : (s.fixSnapshots).tags = s.tags := rfl
@[simp] theorem State.fixSnapshots_proxy : (s.fixSnapshots).proxy = s.proxy := rfl
@[simp] theorem State.fixSnapshots_queues : (s.fixSnapshots).queues = s.queues := rfl
@[simp] theorem State.fixSnapshots_ports : (s.fixSnapshots).ports = s.ports := rfl
@[simp] theorem State.fixSnapshots_trip : (s.fixSnapshots).trip = s.trip := rfl
@[simp] theorem State.fixSnapshots_agent : (s.fixSnapshots).agent = s.agent := rfl
@[simp] theorem State.fixSnapshots_events : (s.fixSnapshots).events = s.events.fixSnapshots := rfl
@[simp] theorem State.fixSnapshots_image : (s.fixSnapshots).image = s.image := rfl
@[simp] theorem State.fixSnapshots_free : (s.fixSnapshots).free = s.free := rfl
@[simp] theorem State.fixSnapshots_pending : (s.fixSnapshots).pending = s.pending := rfl

@[simp] theorem State.hit_phase (i : Fin 64) : (s.hit i).phase = s.phase := rfl
@[simp] theorem State.hit_now (i : Fin 64) : (s.hit i).now = s.now := rfl
@[simp] theorem State.hit_banks (i : Fin 64) :
    (s.hit i).banks = { s.banks with hits := s.banks.hits.set i (bump s.banks.hits[i]) } := rfl
@[simp] theorem State.hit_tags (i : Fin 64) : (s.hit i).tags = s.tags := rfl
@[simp] theorem State.hit_proxy (i : Fin 64) : (s.hit i).proxy = s.proxy := rfl
@[simp] theorem State.hit_queues (i : Fin 64) : (s.hit i).queues = s.queues := rfl
@[simp] theorem State.hit_ports (i : Fin 64) : (s.hit i).ports = s.ports := rfl
@[simp] theorem State.hit_trip (i : Fin 64) : (s.hit i).trip = s.trip := rfl
@[simp] theorem State.hit_agent (i : Fin 64) : (s.hit i).agent = s.agent := rfl
@[simp] theorem State.hit_events (i : Fin 64) : (s.hit i).events = s.events := rfl
@[simp] theorem State.hit_image (i : Fin 64) : (s.hit i).image = s.image := rfl
@[simp] theorem State.hit_free (i : Fin 64) : (s.hit i).free = s.free := rfl
@[simp] theorem State.hit_pending (i : Fin 64) : (s.hit i).pending = s.pending := rfl

end Sys2Proof.Machine
end

