-- ==== Sys2Proof/Laws/Events.lean ====
section
/-! SUPPORT. What the event unit's operations do: which flag a set sets, that nothing but CLEAR_EVENTS clears one, and
when a set makes no report. -/

namespace Sys2Proof.Machine

variable (p : Params) (now : CTime) (ev : Events)

/-- No two flags of one group have one bit. -/
theorem Flag.bits_meet (f g : Flag) (h : f.group = g.group) : (f.bit &&& g.bit ≠ 0) ↔ f = g := by
  revert h
  rcases f with x | x | x | x | x | _ | _ | _ | _ | _ | _ | _ | _ | _ | _ | _ | _ | _ | _ | _ | _ | _ | _ | _ <;>
    rcases g with y | y | y | y | y | _ | _ | _ | _ | _ | _ | _ | _ | _ | _ | _ | _ | _ | _ | _ | _ | _ | _ | _ <;>
    (try cases x) <;> (try cases y) <;> decide

/-- Marking a flag sets that flag and no other. -/
theorem Events.has_mark (f g : Flag) : (ev.mark f).has g = (ev.has g || g == f) := by
  unfold Events.has Events.mark
  simp only [PerGroup.get_set_at]
  by_cases hg : g.group = f.group
  · rw [if_pos hg, hg]
    have e : (ev.flags.get f.group ||| f.bit) &&& g.bit = (ev.flags.get f.group &&& g.bit) ||| (f.bit &&& g.bit) := by
      ext i; simp; cases (ev.flags.get f.group)[i] <;> cases f.bit[i] <;> cases g.bit[i] <;> rfl
    have m := Flag.bits_meet f g hg.symm
    have o : ∀ a b : BitVec 16, (a ||| b != 0) = (a != 0 || b != 0) := by
      intro a b
      rw [Bool.eq_iff_iff]
      simp only [Bool.or_eq_true, bne_iff_ne, ne_eq]
      rw [show (a ||| b = 0) ↔ (a = 0 ∧ b = 0) from BitVec.or_eq_zero_iff]
      tauto
    rw [e, o]
    congr 1
    by_cases hfg : f = g
    · have := m.2 hfg; subst hfg; simp_all
    · have : f.bit &&& g.bit = 0 := by by_contra h; exact hfg (m.1 h)
      rw [this]; simp [Ne.symm hfg]
  · rw [if_neg hg]
    have : g ≠ f := fun h => hg (h ▸ rfl)
    simp [this]

@[simp] theorem Events.mark_reports (f : Flag) : (ev.mark f).reports = ev.reports := rfl
@[simp] theorem Events.mark_enables (f : Flag) : (ev.mark f).enables = ev.enables := rfl
@[simp] theorem Events.mark_counters (f : Flag) : (ev.mark f).counters = ev.counters := rfl
@[simp] theorem Events.mark_nextSeq (f : Flag) : (ev.mark f).nextSeq = ev.nextSeq := rfl

/-- Placing a report touches no flag and no enable. -/
theorem Events.place_keeps (g : Group) (level : Nat) :
    (ev.place g level now).1.flags = ev.flags ∧ (ev.place g level now).1.enables = ev.enables := by
  unfold Events.place
  dsimp only
  repeat' split
  all_goals exact ⟨rfl, rfl⟩

/-- Making a report touches no flag and no enable. -/
theorem Events.report_keeps (g : Group) :
    (ev.report p now g).1.flags = ev.flags ∧ (ev.report p now g).1.enables = ev.enables := by
  unfold Events.report; split
  · exact ⟨rfl, rfl⟩
  · exact Events.place_keeps now ev g _

/-- Raising a flag marks it and touches no other flag. -/
theorem Events.raise_keeps (f : Flag) :
    (ev.raise p now f).1.flags = (ev.mark f).flags ∧ (ev.raise p now f).1.enables = ev.enables := by
  unfold Events.raise; dsimp only; split
  · exact Events.report_keeps p now (ev.mark f) f.group
  · exact ⟨rfl, rfl⟩

/-- A set flag stays set, and the flag itself is set. -/
theorem Events.has_raise {f g : Flag} (h : ev.has g = true ∨ g = f) : (ev.raise p now f).1.has g = true := by
  have : (ev.raise p now f).1.has g = (ev.mark f).has g := by
    unfold Events.has; rw [(Events.raise_keeps p now ev f).1]
  rw [this, Events.has_mark]
  rcases h with h | h <;> simp [h]

/-- A set flag stays set, and the flag itself is set. -/
theorem Events.has_setFlag {f g : Flag} (h : ev.has g = true ∨ g = f) : (ev.setFlag p now f).has g = true := by
  have h1 := Events.has_raise p now ev h
  unfold Events.setFlag
  split
  · rename_i e; rw [e] at h1; exact h1
  · rename_i e; rw [e] at h1; exact Events.has_raise p now _ (.inl h1)

/-- Setting a flag touches no enable. -/
theorem Events.setFlag_enables (f : Flag) : (ev.setFlag p now f).enables = ev.enables := by
  have h1 := (Events.raise_keeps p now ev f).2
  unfold Events.setFlag
  split
  · rename_i e; rw [e] at h1; exact h1
  · rename_i e; rw [e] at h1; exact ((Events.raise_keeps p now _ _).2).trans h1

/-- With REPORT_STATION 4095 a flag is set and nothing else happens (R175). -/
theorem Events.setFlag_unreported (f : Flag) (h : p.reportStation = stationNone) : ev.setFlag p now f = ev.mark f := by
  unfold Events.setFlag Events.raise Events.report
  simp only [h, if_true]
  by_cases c : (!ev.raised f.group && (ev.mark f).raised f.group) = true <;> simp [c]

/-- A flag that raises no group makes no report (R175). -/
theorem Events.setFlag_quiet (f : Flag) (h : ev.raised f.group = true ∨ (ev.mark f).raised f.group = false) :
    ev.setFlag p now f = ev.mark f := by
  unfold Events.setFlag Events.raise
  rcases h with h | h <;> simp [h]

/-- Fixing snapshots touches no flag. -/
theorem Events.has_fixSnapshots (g : Flag) : ev.fixSnapshots.has g = ev.has g := rfl

/-- With no report in the making there is nothing to fix. -/
theorem Events.fixSnapshots_of_made (h : ∀ r ∈ ev.reports, r.making = false) : ev.fixSnapshots = ev := by
  unfold Events.fixSnapshots
  have : (ev.reports.map fun r =>
      if r.making then { r with snapshot := ev.flags.get r.group, making := false } else r) = ev.reports := by
    conv => rhs; rw [← List.map_id ev.reports]
    apply List.map_congr_left
    intro r hr
    simp [h r hr]
  rw [this]

end Sys2Proof.Machine
end

