-- ==== Sys2Proof/Laws/Ops.lean ====
section
/-! SUPPORT. What the shared operations can do: admission, the end of an event, the arrival of a message and the
handling of a command. A proof about a command cites these and unfolds only the command's own rule. -/

namespace Sys2Proof.Machine

variable (s : State)

/-! ## The steady part -/

@[simp] theorem State.steady_onQueue (side : Side) (f : List QFrame → List QFrame) :
    (s.onQueue side f).steady = s.steady := rfl
@[simp] theorem State.steady_countQueue (side : Side) (f : QueueCounters → QueueCounters) :
    (s.countQueue side f).steady = s.steady := rfl
@[simp] theorem State.steady_countClassifier (side : Side) (f : ClassifierCounters → ClassifierCounters) :
    (s.countClassifier side f).steady = s.steady := rfl
@[simp] theorem State.steady_countAgent (f : AgentCounters → AgentCounters) :
    (s.countAgent f).steady = s.steady := rfl
@[simp] theorem State.steady_countEvents (f : EventCounters → EventCounters) :
    (s.countEvents f).steady = s.steady := rfl
@[simp] theorem State.steady_withReports (rs : List Report) : (s.withReports rs).steady = s.steady := rfl
@[simp] theorem State.steady_setFlag (f : Flag) : (s.setFlag f).steady = s.steady := rfl
@[simp] theorem State.steady_fixSnapshots : s.fixSnapshots.steady = s.steady := rfl
@[simp] theorem State.steady_countPort (side : Side) (f : PortCounters → PortCounters) :
    (s.countPort side f).steady = s.steady := by cases side <;> rfl
@[simp] theorem State.steady_heard (side : Side) : (s.heard side).steady = s.steady := by cases side <;> rfl
@[simp] theorem State.steady_handed (m : Arrival) : (s.handed m).steady = s.steady := by
  simp [State.handed]
@[simp] theorem State.steady_delivered (m : Arrival) : (s.delivered m).steady = s.steady := by
  simp [State.delivered]
@[simp] theorem State.steady_enqueue (side : Side) (f : Frame) : (s.enqueue side f).steady = s.steady := by
  simp [State.enqueue]

/-- The session replaced in the steady part. -/
@[simp] theorem State.steady_withSession (x : Option Session) :
    (s.withSession x).steady = { s.steady with session := x } := rfl

/-! ## Growing: what admission and the end of an event can do -/

/-- `t` is `s` but for the queues and the event unit, and no flag was cleared. -/
def State.Grows (s t : State) : Prop :=
  ∃ q ev, t = { s with queues := q, events := ev } ∧ (∀ g, s.events.has g = true → ev.has g = true) ∧
    ev.enables = s.events.enables

/-- Nothing changed is grown. -/
theorem State.Grows.refl : s.Grows s := ⟨s.queues, s.events, rfl, fun _ h => h, rfl⟩

variable {s}

/-- Two growths are one. -/
theorem State.Grows.trans {t u : State} (h : s.Grows t) (k : t.Grows u) : s.Grows u := by
  obtain ⟨q, ev, rfl, f, e⟩ := h
  obtain ⟨q', ev', rfl, f', e'⟩ := k
  exact ⟨q', ev', rfl, fun g hg => f' g (f g hg), e'.trans e⟩

/-- A growth leaves the steady part. -/
theorem State.Grows.steady {t : State} (h : s.Grows t) : t.steady = s.steady := by
  obtain ⟨q, ev, rfl, -⟩ := h; rfl

/-- A growth leaves the banks with their counters, the ports, the agent with its counters and the waiting commands. -/
theorem State.Grows.rest {t : State} (h : s.Grows t) :
    t.phase = s.phase ∧ t.now = s.now ∧ t.banks = s.banks ∧ t.tags = s.tags ∧ t.proxy = s.proxy ∧
      t.ports = s.ports ∧ t.trip = s.trip ∧ t.agent = s.agent ∧ t.image = s.image ∧ t.free = s.free ∧
      t.pending = s.pending := by
  obtain ⟨q, ev, rfl, -⟩ := h; exact ⟨rfl, rfl, rfl, rfl, rfl, rfl, rfl, rfl, rfl, rfl, rfl⟩

/-- A growth clears no flag. -/
theorem State.Grows.has {t : State} (h : s.Grows t) {g : Flag} (k : s.events.has g = true) : t.events.has g = true := by
  obtain ⟨q, ev, rfl, f, -⟩ := h; exact f g k

variable (s)

theorem State.grows_onQueue (side : Side) (f : List QFrame → List QFrame) : s.Grows (s.onQueue side f) :=
  ⟨_, _, rfl, fun _ h => h, rfl⟩
theorem State.grows_countQueue (side : Side) (f : QueueCounters → QueueCounters) : s.Grows (s.countQueue side f) :=
  ⟨_, _, rfl, fun _ h => h, rfl⟩
theorem State.grows_countEvents (f : EventCounters → EventCounters) : s.Grows (s.countEvents f) :=
  ⟨_, _, rfl, fun _ h => h, rfl⟩
theorem State.grows_withReports (rs : List Report) : s.Grows (s.withReports rs) := ⟨_, _, rfl, fun _ h => h, rfl⟩
theorem State.grows_fixSnapshots : s.Grows s.fixSnapshots := ⟨_, _, rfl, fun _ h => h, rfl⟩
theorem State.grows_setFlag (f : Flag) : s.Grows (s.setFlag f) :=
  ⟨_, _, rfl, fun _ h => Events.has_setFlag _ _ _ (.inl h), Events.setFlag_enables _ _ _ _⟩
theorem State.grows_enqueue (side : Side) (f : Frame) : s.Grows (s.enqueue side f) :=
  (s.grows_onQueue side _).trans (State.grows_countQueue _ side _)

/-- The flag set is set. -/
theorem State.has_setFlag (f : Flag) : (s.setFlag f).events.has f = true := Events.has_setFlag _ _ _ (.inr rfl)

/-- Whatever admission decides, it changes the queues and the event unit alone. -/
theorem State.grows_admit (side : Side) (f : Frame) : s.Grows (s.admitFrame side f).1 := by
  unfold State.admitFrame
  repeat' split
  · exact s.grows_countQueue _ _
  · exact s.grows_countQueue _ _
  · exact s.grows_enqueue _ _
  · exact (((s.grows_onQueue _ _).trans (State.grows_countQueue _ _ _)).trans (State.grows_enqueue _ _ _)).trans
      (State.grows_setFlag _ _)
  · exact (s.grows_countQueue _ _).trans (State.grows_setFlag _ _)
  · exact s.grows_countQueue _ _

/-- A report's send changes the queues and the event unit alone. -/
theorem State.grows_sendReport (r : Report) : s.Grows (s.sendReport r) := by
  unfold State.sendReport
  exact ((s.grows_admit _ _).trans (State.grows_withReports _ _)).trans (State.grows_countEvents _ _)

/-- The send that is due changes the queues and the event unit alone. -/
theorem State.grows_sendDue : s.Grows s.sendDue := by
  unfold State.sendDue
  repeat' split
  · exact State.Grows.refl s
  · exact (s.grows_withReports _).trans (State.grows_countEvents _ _)
  · exact s.grows_sendReport _
  · exact State.Grows.refl s

/-- The end of an event changes the queues and the event unit alone. -/
theorem State.grows_settle : s.Grows s.settle :=
  (s.grows_fixSnapshots.trans (State.grows_sendDue _)).trans (State.grows_fixSnapshots _)

variable {s}

/-- With nothing to settle the end of an event changes nothing. -/
theorem State.settle_of_quiet (h : s.Quiet) : s.settle = s := by
  have e : s.fixSnapshots = s := by
    unfold State.fixSnapshots; rw [Events.fixSnapshots_of_made _ fun r hr => (h r hr).1]
  have d : s.sendDue = s := by
    unfold State.sendDue outstandingReport
    cases c : s.events.reports.find? (·.outstanding) with
    | none => rfl
    | some r =>
      have hr := List.mem_of_find?_eq_some c
      have ho := List.find?_some c
      simp [(h r hr).2 ho]
  unfold State.settle; rw [e, d, e]

/-- Quiet reads the report list alone. -/
theorem State.quiet_congr {t : State} (e : t.events.reports = s.events.reports) : t.Quiet ↔ s.Quiet := by
  simp [State.Quiet, e]

/-! ## Admission with room -/

/-- With room a frame that the trip unit lets pass is queued and counted, and nothing else happens (R75). -/
theorem State.admit_room {side : Side} {f : Frame} (h : s.Room side) (t : s.trip.state ≠ .tripped ∨ f.traffic = false) :
    s.admitFrame side f = (s.enqueue side f, .queued) := by
  obtain ⟨a, b, c⟩ := h
  have r : s.roomToward side = true := by
    simp only [State.roomToward, Bool.and_eq_true, decide_eq_true_eq]
    exact ⟨b, Nat.sub_pos_of_lt c⟩
  have n : ¬(s.trip.state = .tripped ∧ f.traffic = true) := by
    rintro ⟨x, y⟩; rcases t with t | t
    · exact t x
    · simp [t] at y
  unfold State.admitFrame
  simp [a, n, r]

/-- A response is never traffic. -/
@[simp] theorem responseFrame_traffic (p : Params) (dst : Station) (r : Response) :
    (responseFrame p dst r).traffic = false := rfl

/-- With room a response is queued and nothing else happens (R145). -/
theorem State.respond_room {m : Arrival} {r : Response} (h : s.Room m.side) : s.respond m r = s.queueResponse m r := by
  unfold State.respond State.queueResponse
  rw [State.admit_room h (.inr rfl)]

/-- Whatever becomes of a response, it changes nothing but the queues, the event unit and the agent's counters. -/
theorem State.respond_cases (m : Arrival) (r : Response) :
    ∃ u, s.Grows u ∧ (s.respond m r = u ∨
      s.respond m r = u.countAgent fun c => { c with responseLost := bump c.responseLost }) := by
  have g := s.grows_admit m.side (responseFrame s.agent.params m.source r)
  unfold State.respond
  split
  · rename_i u e; rw [e] at g; exact ⟨u, g, .inl rfl⟩
  · rename_i u w e; rw [e] at g; exact ⟨u, g, .inr rfl⟩

/-- The send that ENABLE_EVENTS makes before its response changes, beside the enables and the report they make, the
queues and the event unit alone, and clears no flag (R177). -/
theorem State.grows_enableFlags (g : Group) (set : BitVec 16) :
    State.Grows { s with events := s.events.setEnables s.agent.params s.now g set } (s.enableFlags g set) :=
  State.grows_settle _

variable (s)

@[simp] theorem State.steady_respond (m : Arrival) (r : Response) : (s.respond m r).steady = s.steady := by
  obtain ⟨u, g, e | e⟩ := State.respond_cases (s := s) m r
  · rw [e, g.steady]
  · rw [e, State.steady_countAgent, g.steady]

@[simp] theorem State.steady_settle : s.settle.steady = s.steady := s.grows_settle.steady

/-! ## The end of a frame at a port -/

/-- What a frame that ends at a port does, once and for all: it is passed over, discarded while the side is OFF, or
received (R98, R114). -/
theorem State.endOfFrame_cases (side : Side) (take : State → State) :
    ((s.ports.get side).awaitsStart = true ∧ s.endOfFrame side take = s.passOver side) ∨
      ((s.ports.get side).awaitsStart = false ∧ (s.ports.get side).state = .off ∧
        s.endOfFrame side take = s.receiveOff side) ∨
      ((s.ports.get side).awaitsStart = false ∧ (s.ports.get side).state ≠ .off ∧ s.endOfFrame side take = take s) := by
  unfold State.endOfFrame
  cases (s.ports.get side).awaitsStart <;> by_cases o : (s.ports.get side).state = .off <;> simp [o]

variable {s}

/-- A frame that the port takes is received (R96). -/
theorem State.endOfFrame_receives {side : Side} {take : State → State} (h : s.Receives side) :
    s.endOfFrame side take = take s := by
  unfold State.endOfFrame; rw [if_neg (by simp [h.2.1]), if_neg h.2.2]

/-- A frame that was in progress when STARTING ended changes the port's receiver and nothing else (R114). -/
theorem State.passOver_eq (side : Side) :
    s.passOver side =
      { s with ports := s.ports.modify side fun p => { p with acknowledged := false, awaitsStart := false } } := by
  cases side <;> rfl

@[simp] theorem State.passOver_awaitsStart (side : Side) :
    ((s.passOver side).ports.get side).awaitsStart = false := by cases side <;> rfl
@[simp] theorem State.passOver_far (side : Side) :
    (s.passOver side).ports.get side.far = s.ports.get side.far := by cases side <;> rfl

/-! ## The arrival of a message -/

variable {m : Arrival}

/-- A message handed to the agent: what the agent makes of it, settled. -/
theorem arrival_heard (h : s.Hears m) (payload : Payload) (agent : State → State) :
    arrival true m false payload agent s = .next (agent (s.handed m)).settle := by
  obtain ⟨r, c, d, e, f⟩ := h
  have run : s.running = true := by simp [State.running, r.1]
  have good : badAddresses s.agent.params.ownStation s.agent.params.ownStation m.source = false := by
    simp [badAddresses, c, d, e, f]
  have same : s.heard m.side =
      (s.acknowledge m.side true).countPort m.side fun c => { c with receivedGood := bump c.receivedGood } := by
    unfold State.heard State.acknowledge State.countPort State.onPort; simp
  have goal : State.arrive m false payload agent s = agent (s.handed m) := by
    unfold State.arrive State.receiveGood State.classifyMgmt
    simp only [State.endOfFrame_receives r]
    rw [← same]
    have own : (s.heard m.side).agent.params.ownStation = s.agent.params.ownStation := rfl
    simp only [Bool.false_eq_true, if_false]
    rw [own, good]
    simp [State.handed]
  unfold arrival State.event
  rw [if_pos rfl, if_pos run, goal]

/-- A new command handed to the agent. -/
theorem take_new {seq : Byte} {c : Command} (n : s.NewCommand m seq)
    (o : c.ownerOnly = true → s.ownedBy m.source = true) :
    State.take m seq c (s.handed m) =
      ((c.run (s.delivered m)).1).finish c.settleFirst m
        ⟨seq, c.code, (c.run (s.delivered m)).2.status, (c.run (s.delivered m)).2.args⟩ := by
  have d : (s.handed m).duplicateOf m seq = none := by
    unfold State.duplicateOf
    change (match s.agent.session with
      | some x => if x.owner = m.source ∧ x.lastSeq = seq then some x.cached else none
      | none => none) = none
    cases e : s.agent.session with
    | none => rfl
    | some x =>
      have := n x (by simp [e])
      simp only []
      rw [if_neg]; rintro ⟨a, b⟩; exact this a b
  have k : (s.handed m).countCommand.decideCommand m c = c.run (s.delivered m) := by
    unfold State.decideCommand
    rw [if_neg]
    · rfl
    · intro w
      simp only [Bool.and_eq_true, Bool.not_eq_true'] at w
      have : (s.handed m).countCommand.ownedBy m.source = s.ownedBy m.source := rfl
      rw [this, o w.1] at w
      simp at w
  unfold State.take
  rw [d]; simp only []; rw [k]

/-- A command's end leaves what its caching leaves, but for the queues, the event unit and the agent's counters. -/
theorem finish_steady (b : Bool) (r : Response) : (s.finish b m r).steady = (s.keepResponse m r).steady := by
  unfold State.finish; cases b <;> simp

/-- The owner's session after a command answered `r`. -/
theorem keepResponse_owner {x : Session} (r : Response) (h : s.agent.session = some x) (o : x.owner = m.source) :
    s.keepResponse m r = s.withSession (some (x.answered s.now m.side r)) := by
  unfold State.keepResponse; rw [h]; simp only [o, if_true]; rfl

/-- A station that is not the owner has nothing cached. -/
theorem keepResponse_other (r : Response) (h : ∀ x ∈ s.agent.session, x.owner ≠ m.source) :
    s.keepResponse m r = s := by
  unfold State.keepResponse
  cases e : s.agent.session with
  | none => rfl
  | some x => simp [h x (by simp [e])]

/-- The event of a new command that is let through: what its rule does, then its end, settled. -/
theorem addressed_new {seq : Byte} {args : Payload} {c : Command} (h : s.Hears m) (n : s.NewCommand m seq)
    (o : c.ownerOnly = true → s.ownedBy m.source = true) (fit : argsFit args = true) :
    addressed m seq args c s =
      .next (((c.run (s.delivered m)).1).finish c.settleFirst m
        ⟨seq, c.code, (c.run (s.delivered m)).2.status, (c.run (s.delivered m)).2.args⟩).settle := by
  unfold addressed
  rw [fit, arrival_heard h, take_new n o]

/-- The owner's new command is let through. -/
theorem HearsOwner.lets {seq : Byte} {x : Session} (h : s.HearsOwner m seq x) :
    s.NewCommand m seq ∧ s.ownedBy m.source = true := by
  obtain ⟨-, a, b, c⟩ := h
  refine ⟨fun y hy _ => ?_, by simp [State.ownedBy, a, b]⟩
  rw [a] at hy; cases hy; exact c

/-- The event of the owner's new command. -/
theorem addressed_owner {seq : Byte} {args : Payload} {c : Command} {x : Session} (h : s.HearsOwner m seq x)
    (fit : argsFit args = true) :
    addressed m seq args c s =
      .next (((c.run (s.delivered m)).1).finish c.settleFirst m
        ⟨seq, c.code, (c.run (s.delivered m)).2.status, (c.run (s.delivered m)).2.args⟩).settle :=
  addressed_new h.1 (HearsOwner.lets h).1 (fun _ => (HearsOwner.lets h).2) fit

/-- What the owner's new command leaves of the steady part: what its rule leaves, and the session answered. -/
theorem addressed_owner_steady {seq : Byte} {args : Payload} {c : Command} {x y : Session} {u : State} {reply : Reply}
    (h : s.HearsOwner m seq x) (fit : argsFit args = true) (run : c.run (s.delivered m) = (u, reply))
    (sess : u.agent.session = some y) (own : y.owner = m.source) :
    ∃ t, addressed m seq args c s = .next t ∧
      t.steady =
        { u.steady with session := some (y.answered u.now m.side ⟨seq, c.code, reply.status, reply.args⟩) } ∧
      (∀ g, u.events.has g = true → t.events.has g = true) := by
  refine ⟨_, addressed_owner h fit, ?_, ?_⟩
  · rw [run, State.steady_settle, finish_steady, keepResponse_owner _ sess own]; rfl
  · rw [run]
    intro g hg
    refine (State.grows_settle _).has ?_
    simp only [State.finish]
    rw [keepResponse_owner _ sess own]
    obtain ⟨v, k, e | e⟩ := State.respond_cases
      (s := if c.settleFirst then
        (u.withSession (some (y.answered u.now m.side ⟨seq, c.code, reply.status, reply.args⟩))).settle
        else u.withSession (some (y.answered u.now m.side ⟨seq, c.code, reply.status, reply.args⟩))) m
      ⟨seq, c.code, reply.status, reply.args⟩
    all_goals
      rw [e]
      have z : v.events.has g = true := by
        refine k.has ?_
        split
        · exact (State.grows_settle _).has hg
        · exact hg
      exact z

/-- A command that leaves its session and the report list alone is answered with the response queued and nothing else
done, where there is room and nothing to settle. -/
theorem addressed_room {seq : Byte} {args : Payload} {c : Command} {u : State} {reply : Reply} (h : s.Hears m)
    (n : s.NewCommand m seq) (o : c.ownerOnly = true → s.ownedBy m.source = true) (fit : argsFit args = true)
    (run : c.run (s.delivered m) = (u, reply)) (q : u.Quiet) (room : u.Room m.side) :
    addressed m seq args c s = .next (u.answeredBy m ⟨seq, c.code, reply.status, reply.args⟩) := by
  rw [addressed_new h n o fit, run]
  set r : Response := ⟨seq, c.code, reply.status, reply.args⟩
  have rest : ∀ v : State, v = u.keepResponse m r → v.events = u.events ∧ v.queues = u.queues ∧ v.ports = u.ports ∧
      v.agent.params = u.agent.params := by
    rintro v rfl
    unfold State.keepResponse
    repeat' split
    all_goals exact ⟨rfl, rfl, rfl, rfl⟩
  obtain ⟨ev, qs, ps, pr⟩ := rest _ rfl
  have q1 : (u.keepResponse m r).Quiet := (State.quiet_congr (by rw [ev])).2 q
  have room1 : (u.keepResponse m r).Room m.side := by
    simp only [State.Room] at room ⊢; rw [qs, ps, pr]; exact room
  have f : u.finish c.settleFirst m r = u.answeredBy m r := by
    simp only [State.finish, State.settle_of_quiet q1, ite_self]
    rw [State.respond_room room1]
    rfl
  have q2 : (u.answeredBy m r).Quiet := (State.quiet_congr (by
    change (u.keepResponse m r).events.reports = _; rw [ev])).2 q
  rw [f, State.settle_of_quiet q2]

end Sys2Proof.Machine
end

