-- ==== Sys2Proof/Laws/Blocks.lean ====
section
/-! SUPPORT. What the operations of the blocks can do: the queues and reports as lists, removals and purges, the records
found and bound, the ports, the trip entry and the abort of a transfer. -/

namespace Sys2Proof.Machine

/-! ## Places in the lists -/

/-- A frame inserted is one more frame, the others kept. -/
theorem insertFrame_perm (x : QFrame) (q : List QFrame) : (insertFrame x q).Perm (x :: q) := by
  induction q with
  | nil => exact .refl _
  | cons y ys ih =>
    unfold insertFrame
    split
    · exact (ih.cons y).trans (.swap x y ys)
    · exact .refl _

@[simp] theorem insertFrame_length (x : QFrame) (q : List QFrame) : (insertFrame x q).length = q.length + 1 :=
  (insertFrame_perm x q).length_eq

@[simp] theorem mem_insertFrame {x y : QFrame} {q : List QFrame} : y ∈ insertFrame x q ↔ y = x ∨ y ∈ q := by
  rw [(insertFrame_perm x q).mem_iff, List.mem_cons]

/-- Inserting a frame that is not on the line counts no more frames on the line. -/
theorem insertFrame_countP (x : QFrame) (q : List QFrame) (h : x.onLine = false) :
    (insertFrame x q).countP (·.onLine) = q.countP (·.onLine) := by
  rw [(insertFrame_perm x q).countP_eq, List.countP_cons_of_neg (by simp [h])]

/-- A report inserted is one more report, the others kept. -/
theorem insertReport_perm (r : Report) (rs : List Report) : (insertReport r rs).Perm (r :: rs) := by
  induction rs with
  | nil => exact .refl _
  | cons y ys ih =>
    unfold insertReport
    split
    · exact (ih.cons y).trans (.swap r y ys)
    · exact .refl _

/-- The place found for a class holds a frame of that class that is not on the line, and no later one does (R76). -/
theorem newestOffLine_some {k : FClass} {q : List QFrame} {i : Nat} (h : newestOffLine k q = some i) :
    ∃ x, q[i]? = some x ∧ x.frame.cls = k ∧ x.onLine = false := by
  induction q generalizing i with
  | nil => cases h
  | cons y ys ih =>
    unfold newestOffLine at h
    split at h
    · rename_i j e
      cases h
      obtain ⟨x, a, b⟩ := ih e
      exact ⟨x, by simpa using a, b⟩
    · split at h
      · rename_i c
        cases h
        simp only [Bool.and_eq_true, decide_eq_true_eq, Bool.not_eq_true'] at c
        exact ⟨y, rfl, c⟩
      · cases h

/-- No place is found for a class just when every frame of the class is on the line. -/
theorem newestOffLine_none {k : FClass} {q : List QFrame} :
    newestOffLine k q = none ↔ ∀ x ∈ q, x.frame.cls = k → x.onLine = true := by
  induction q with
  | nil => simp [newestOffLine]
  | cons y ys ih =>
    unfold newestOffLine
    cases e : newestOffLine k ys with
    | some i =>
      obtain ⟨x, a, b, c⟩ := newestOffLine_some e
      simp only [reduceCtorEq, false_iff]
      intro h
      have := h x (List.mem_cons_of_mem y (List.mem_of_getElem? a)) b
      simp [c] at this
    | none =>
      have t := ih.1 e
      by_cases c : y.frame.cls = k <;> cases o : y.onLine <;> simp_all

/-- A displaced frame is of a class below the arriving frame's and not on the line (R76). -/
theorem displaceable_some {c : FClass} {q : List QFrame} {i : Nat} (h : displaceable c q = some i) :
    ∃ x, q[i]? = some x ∧ x.frame.cls < c ∧ x.onLine = false := by
  unfold displaceable at h
  obtain ⟨k, hk, e⟩ := List.exists_of_findSome?_eq_some h
  obtain ⟨x, a, b, d⟩ := newestOffLine_some e
  refine ⟨x, a, ?_, d⟩
  have hk := List.mem_range.1 hk
  rw [b, BitVec.lt_def, BitVec.toNat_ofNat, Nat.mod_eq_of_lt (by have := c.isLt; omega)]
  exact hk

/-! ## Operations on the queues alone -/

variable (s : State)

theorem State.grows_removedUnder (side : Side) (m : Mark) : s.Grows (s.removedUnder side m) := by
  cases m
  · exact .refl s
  · exact (s.grows_countQueue _ _).trans (State.grows_setFlag _ _)
  · exact s.grows_countQueue _ _
  · exact s.grows_countQueue _ _

theorem State.grows_expire (side : Side) (place : Nat) : s.Grows (s.expire side place) := by
  unfold State.expire
  repeat' split
  · exact s.grows_onQueue _ _
  · exact (s.grows_onQueue _ _).trans (State.grows_removedUnder _ _ _)
  · exact .refl s

theorem State.grows_purge (side : Side) (f : Nat → QueueCounters → QueueCounters) : s.Grows (s.purge side f) :=
  (s.grows_onQueue _ _).trans (State.grows_countQueue _ _ _)

theorem State.grows_tripPurge (side : Side) : s.Grows (s.tripPurge side) :=
  (s.grows_onQueue _ _).trans (State.grows_countQueue _ _ _)

theorem State.grows_failFrame (side : Side) (i : Nat) (x : QFrame) : s.Grows (s.failFrame side i x) := by
  unfold State.failFrame State.requeue
  split
  · exact ((s.grows_onQueue _ _).trans (State.grows_countQueue _ _ _)).trans (State.grows_setFlag _ _)
  · exact s.grows_onQueue _ _

theorem State.grows_settleFrame (side : Side) (o : LineOutcome) (i : Nat) (x : QFrame) :
    s.Grows (s.settleFrame side o i x) := by
  unfold State.settleFrame State.requeue
  repeat' split
  · exact (s.grows_onQueue _ _).trans (State.grows_countQueue _ _ _)
  · exact s.grows_onQueue _ _
  · exact (s.grows_onQueue _ _).trans (State.grows_removedUnder _ _ _)
  · exact s.grows_failFrame _ _ _
  · exact (s.grows_onQueue _ _).trans (State.grows_removedUnder _ _ _)
  · exact s.grows_failFrame _ _ _
  · exact (s.grows_onQueue _ _).trans (State.grows_removedUnder _ _ _)

/-- What becomes of the frame on the line at the end of an attempt is a matter of the queues and the event unit. -/
theorem State.grows_settleFate (side : Side) (o : LineOutcome) : s.Grows (s.settleFate side o) := by
  unfold State.settleFate
  dsimp only
  repeat' split
  · exact s.grows_settleFrame _ _ _ _
  · exact .refl s
  · exact .refl s

theorem State.grows_expireOverAge (side : Side) (c : FClass) (n : Nat) : s.Grows (s.expireOverAge side c n) := by
  induction n generalizing s with
  | zero => exact .refl s
  | succ n ih =>
    unfold State.expireOverAge
    refine State.Grows.trans ?_ (ih _)
    repeat' split
    · exact s.grows_expire _ _
    · exact .refl s
    · exact .refl s

/-- A new age limit touches the queues and the event unit alone (R84). -/
theorem State.grows_rereadAge (side : Side) (c : FClass) : s.Grows (s.rereadAge side c) :=
  (s.grows_onQueue _ _).trans (State.grows_expireOverAge _ _ _ _)

theorem State.grows_cancelIn (side : Side) (t : Tag) : s.Grows (s.cancelIn side t).1 :=
  (s.grows_onQueue _ _).trans (State.grows_countQueue _ _ _)

/-- CANCEL_TAG touches the queues alone (R86). -/
theorem State.grows_cancelTag (sides : Byte) (t : Tag) : s.Grows (s.cancelTag sides t).1 := by
  unfold State.cancelTag
  split
  · exact s.grows_cancelIn _ _
  · split
    · exact s.grows_cancelIn _ _
    · split
      · exact (s.grows_cancelIn .a t).trans (State.grows_cancelIn _ .b t)
      · exact .refl s

/-! ## Records and outstanding queries -/

/-- The record found has the key (R33). -/
theorem TagMemory.find_some {t : TagMemory} {o : Side} {tag : Tag} {i : Fin 48} (h : t.find o tag = some i) :
    ∃ r, t.records[i] = some r ∧ r.origin = o ∧ r.tag = tag := by
  have e := List.find?_some h
  split at e
  · rename_i r hr
    simp only [Record.keyed, Bool.and_eq_true, beq_iff_eq] at e
    exact ⟨r, hr, e⟩
  · cases e

/-- No record is found just when none has the key (R35). -/
theorem TagMemory.find_none {t : TagMemory} {o : Side} {tag : Tag} :
    t.find o tag = none ↔ ∀ (i : Fin 48) (r : Record), t.records[i] = some r → ¬(r.origin = o ∧ r.tag = tag) := by
  unfold TagMemory.find recordNumbers
  rw [List.find?_eq_none]
  constructor
  · intro h i r hr
    have := h i (List.mem_finRange i)
    rw [hr] at this
    simpa [Record.keyed] using this
  · intro h i _
    split
    · rename_i r hr; simpa [Record.keyed] using h i r hr
    · simp

/-- A record changed, read at any number. -/
theorem TagMemory.modify_records (t : TagMemory) (i j : Fin 48) (f : Record → Record) :
    (t.modify i f).records[j] = if i = j then (t.records[j]).map f else t.records[j] := by
  unfold TagMemory.modify
  by_cases h : i = j
  · subst h; simp
  · simp [h, Fin.val_ne_of_ne h]

/-- The entry found has the key, and none is found just when no entry has it (R52). -/
theorem Proxy.find_some {p : Proxy} {o : Side} {tag : Tag} {q : QueryEntry} (h : p.find o tag = some q) :
    q ∈ p.list ∧ q.target = o ∧ q.tag = tag := by
  have e := List.find?_some h
  simp only [QueryEntry.keyed, Bool.and_eq_true, beq_iff_eq] at e
  exact ⟨List.mem_of_find?_eq_some h, e⟩

theorem Proxy.find_none {p : Proxy} {o : Side} {tag : Tag} :
    p.find o tag = none ↔ ∀ q ∈ p.list, ¬(q.target = o ∧ q.tag = tag) := by
  unfold Proxy.find
  rw [List.find?_eq_none]
  simp [QueryEntry.keyed]

/-- The clearing of the list empties it and touches nothing but the list, its counters and the bound marks (R65). -/
theorem State.clearQueries_keeps :
    s.clearQueries.proxy.list = [] ∧ s.clearQueries.banks = s.banks ∧ s.clearQueries.queues = s.queues ∧
      s.clearQueries.ports = s.ports ∧ s.clearQueries.trip = s.trip ∧ s.clearQueries.agent = s.agent ∧
      s.clearQueries.events = s.events ∧ s.clearQueries.image = s.image ∧ s.clearQueries.phase = s.phase ∧
      s.clearQueries.now = s.now ∧ s.clearQueries.free = s.free ∧ s.clearQueries.pending = s.pending := by
  have fold : ∀ (l : List QueryEntry) (u : State),
      let v := l.foldl (fun (s : State) q =>
        { s with tags := s.tags.bind q.record false }.countProxy q.target.far fun c =>
          { c with cleared := bump c.cleared }) u
      v.banks = u.banks ∧ v.queues = u.queues ∧ v.ports = u.ports ∧ v.trip = u.trip ∧ v.agent = u.agent ∧
        v.events = u.events ∧ v.image = u.image ∧ v.phase = u.phase ∧ v.now = u.now ∧ v.free = u.free ∧
        v.pending = u.pending := by
    intro l
    induction l with
    | nil => intro u; exact ⟨rfl, rfl, rfl, rfl, rfl, rfl, rfl, rfl, rfl, rfl, rfl⟩
    | cons q l ih => intro u; exact ih _
  exact ⟨rfl, fold s.proxy.list s⟩

/-! ## The shadow state and the session -/

/-- An aborted transfer leaves INCOMPLETE, any other shadow state stays, and nothing else of the steady part changes
(R171). -/
theorem State.steady_abortTransfer :
    s.abortTransfer.steady =
      { s.steady with
        shadowState := if s.banks.shadowState.isLoading then .incomplete else s.banks.shadowState } := by
  unfold State.abortTransfer ShadowState.isLoading
  cases h : s.banks.shadowState <;> simp [State.steady, h]

/-- An aborted transfer sets LOAD_ABORTED (R171). -/
theorem State.has_abortTransfer (h : s.banks.shadowState.isLoading = true) :
    s.abortTransfer.events.has .loadAborted = true := by
  unfold State.abortTransfer
  cases e : s.banks.shadowState with
  | loading t => exact State.has_setFlag _ _
  | clean => simp [e, ShadowState.isLoading] at h
  | incomplete => simp [e, ShadowState.isLoading] at h

end Sys2Proof.Machine
end

