-- ==== Sys2Proof/Laws/PerInstr.lean ====
section
/-! SUPPORT. A statement about every row of the table, one lemma for each constructor: the message that a well-formed
row carries fits a frame. -/

namespace Sys2Proof.Laws.MessageFits

/-- The message that a row carries, when the row is well formed, fits the payload of one frame (R96, 8.1). -/
def Statement (i : Instr) : Prop :=
  i.wellFormed = true → ∀ x ∈ i.message, x.2.2.length ≤ Config.payload

/-- A message of a header and arguments that fit. -/
theorem fits {a b c d : Byte} {args : Payload} (h : argsFit args = true) :
    (a :: b :: c :: d :: args).length ≤ Config.payload := by
  have n : args.length ≤ 20 := of_decide_eq_true h
  simp only [List.length_cons, Config.payload]; omega

theorem rstNLow : Statement .rstNLow := by rintro - x ⟨⟩
theorem powerLoss : Statement .powerLoss := by rintro - x ⟨⟩
theorem startUp (strap : BitVec 4) (failmodeHigh : Bool) (checks0 checks1 : Bool) :
    Statement (.startUp strap failmodeHigh checks0 checks1) := by rintro - x ⟨⟩
theorem startingEnd (busyA busyB : Bool) : Statement (.startingEnd busyA busyB) := by rintro - x ⟨⟩
theorem reception (side : Side) (bytes : List Byte) : Statement (.reception side bytes) := by rintro - x ⟨⟩
theorem transmitterSelection (side : Side) : Statement (.transmitterSelection side) := by rintro - x ⟨⟩
theorem lineWaitExpiry (side : Side) : Statement (.lineWaitExpiry side) := by rintro - x ⟨⟩
theorem attemptCompletion (side : Side) (outcome : LineOutcome) :
    Statement (.attemptCompletion side outcome) := by rintro - x ⟨⟩
theorem recoveryDeadline (side : Side) : Statement (.recoveryDeadline side) := by rintro - x ⟨⟩
theorem ageDeadline (side : Side) (place : Nat) : Statement (.ageDeadline side place) := by rintro - x ⟨⟩
theorem freshnessDeadline (record : Fin 48) : Statement (.freshnessDeadline record) := by rintro - x ⟨⟩
theorem queryEntryDeadline (place : Nat) : Statement (.queryEntryDeadline place) := by rintro - x ⟨⟩
theorem windowDeadline : Statement .windowDeadline := by rintro - x ⟨⟩
theorem leaseDeadline : Statement .leaseDeadline := by rintro - x ⟨⟩
theorem idleDeadline : Statement .idleDeadline := by rintro - x ⟨⟩
theorem retryDeadline : Statement .retryDeadline := by rintro - x ⟨⟩
theorem storeCompletion (verified : Bool) : Statement (.storeCompletion verified) := by rintro - x ⟨⟩
theorem ack (m : Arrival) (seq : Byte) : Statement (.ack m seq) := by rintro - x ⟨⟩; simp [Config.payload]
theorem badMessage (m : Arrival) (toAll : Bool) (payload : Payload) : Statement (.badMessage m toAll payload) := by
  rintro h x ⟨⟩; simp only [Instr.wellFormed, Bool.and_eq_true, decide_eq_true_eq] at h; exact h.1
theorem ignoredMessage (m : Arrival) (toAll : Bool) (payload : Payload) :
    Statement (.ignoredMessage m toAll payload) := by
  rintro h x ⟨⟩; simp only [Instr.wellFormed, Bool.and_eq_true, decide_eq_true_eq] at h; exact h.1
theorem unknownCommand (m : Arrival) (seq code : Byte) (args : Payload) :
    Statement (.unknownCommand m seq code args) := by
  rintro h x ⟨⟩; simp only [Instr.wellFormed, Bool.and_eq_true] at h; exact fits h.1
theorem identify (m : Arrival) (toAll : Bool) (seq : Byte) (args : Payload) :
    Statement (.identify m toAll seq args) := by rintro h x ⟨⟩; exact fits h
theorem openSession (m : Arrival) (seq : Byte) (args : Payload) :
    Statement (.openSession m seq args) := by rintro h x ⟨⟩; exact fits h
theorem closeSession (m : Arrival) (seq : Byte) (args : Payload) :
    Statement (.closeSession m seq args) := by rintro h x ⟨⟩; exact fits h
theorem readStatus (m : Arrival) (seq : Byte) (args : Payload) :
    Statement (.readStatus m seq args) := by rintro h x ⟨⟩; exact fits h
theorem readCounters (m : Arrival) (seq : Byte) (args : Payload) :
    Statement (.readCounters m seq args) := by rintro h x ⟨⟩; exact fits h
theorem clearCounters (m : Arrival) (seq : Byte) (args : Payload) :
    Statement (.clearCounters m seq args) := by rintro h x ⟨⟩; exact fits h
theorem readEntry (m : Arrival) (seq : Byte) (args : Payload) :
    Statement (.readEntry m seq args) := by rintro h x ⟨⟩; exact fits h
theorem writeEntry (m : Arrival) (seq : Byte) (args : Payload) :
    Statement (.writeEntry m seq args) := by rintro h x ⟨⟩; exact fits h
theorem writeMasksDefaults (m : Arrival) (seq : Byte) (args : Payload) :
    Statement (.writeMasksDefaults m seq args) := by rintro h x ⟨⟩; exact fits h
theorem copyActive (m : Arrival) (seq : Byte) (args : Payload) :
    Statement (.copyActive m seq args) := by rintro h x ⟨⟩; exact fits h
theorem commit (m : Arrival) (seq : Byte) (args : Payload) :
    Statement (.commit m seq args) := by rintro h x ⟨⟩; exact fits h
theorem loadBegin (m : Arrival) (seq : Byte) (args : Payload) :
    Statement (.loadBegin m seq args) := by rintro h x ⟨⟩; exact fits h
theorem loadPart (m : Arrival) (seq : Byte) (args : Payload) :
    Statement (.loadPart m seq args) := by rintro h x ⟨⟩; exact fits h
theorem loadEnd (m : Arrival) (seq : Byte) (args : Payload) :
    Statement (.loadEnd m seq args) := by rintro h x ⟨⟩; exact fits h
theorem readRecord (m : Arrival) (seq : Byte) (args : Payload) :
    Statement (.readRecord m seq args) := by rintro h x ⟨⟩; exact fits h
theorem flushRecords (m : Arrival) (seq : Byte) (args : Payload) :
    Statement (.flushRecords m seq args) := by rintro h x ⟨⟩; exact fits h
theorem readQueries (m : Arrival) (seq : Byte) (args : Payload) :
    Statement (.readQueries m seq args) := by rintro h x ⟨⟩; exact fits h
theorem cancelTag (m : Arrival) (seq : Byte) (args : Payload) :
    Statement (.cancelTag m seq args) := by rintro h x ⟨⟩; exact fits h
theorem sideControlOff (m : Arrival) (seq : Byte) (target : Byte) :
    Statement (.sideControlOff m seq target) := by rintro - x ⟨⟩; simp [Config.payload]
theorem sideControlOn (m : Arrival) (seq : Byte) (target : Byte) :
    Statement (.sideControlOn m seq target) := by rintro - x ⟨⟩; simp [Config.payload]
theorem sideControlRecover (m : Arrival) (seq : Byte) (target : Byte) :
    Statement (.sideControlRecover m seq target) := by rintro - x ⟨⟩; simp [Config.payload]
theorem setConfig (m : Arrival) (seq : Byte) (args : Payload) :
    Statement (.setConfig m seq args) := by rintro h x ⟨⟩; exact fits h
theorem readConfig (m : Arrival) (seq : Byte) (args : Payload) :
    Statement (.readConfig m seq args) := by rintro h x ⟨⟩; exact fits h
theorem setTrip (m : Arrival) (seq : Byte) (args : Payload) :
    Statement (.setTrip m seq args) := by rintro h x ⟨⟩; exact fits h
theorem releaseTrip (m : Arrival) (seq : Byte) (args : Payload) :
    Statement (.releaseTrip m seq args) := by rintro h x ⟨⟩; exact fits h
theorem readEvents (m : Arrival) (seq : Byte) (args : Payload) :
    Statement (.readEvents m seq args) := by rintro h x ⟨⟩; exact fits h
theorem clearEvents (m : Arrival) (seq : Byte) (args : Payload) :
    Statement (.clearEvents m seq args) := by rintro h x ⟨⟩; exact fits h
theorem enableEvents (m : Arrival) (seq : Byte) (args : Payload) :
    Statement (.enableEvents m seq args) := by rintro h x ⟨⟩; exact fits h
theorem store (m : Arrival) (seq : Byte) (args : Payload) :
    Statement (.store m seq args) := by rintro h x ⟨⟩; exact fits h
theorem restart (m : Arrival) (seq : Byte) (args : Payload) :
    Statement (.restart m seq args) := by rintro h x ⟨⟩; exact fits h

end Sys2Proof.Laws.MessageFits
end

