-- ==== Sys2Proof/Tests/Slice0.lean ====
section
/-! SUPPORT. The model's own tests: well-formedness, the frame check, single steps taken from the manual's worked
examples and tables, and for each obligation with hypotheses a state and operands that meet them. -/

namespace Sys2Proof.Machine.Tests

-- One theorem at a time: many kernel evaluations side by side take a thread each.
set_option Elab.async false

/-! ## Well-formedness: each check refuses an ill-formed term -/

/-- A command of station 33 that arrives on side A. -/
def mA : Arrival := ⟨.a, 33, 1, 3, false⟩

/-- A command of station 50 that arrives on side B. -/
def mB : Arrival := ⟨.b, 50, 1, 3, false⟩

theorem test_wf_arguments_too_long :
    (Instr.commit mA 0 (List.replicate 21 0)).wellFormed = false ∧
      (Instr.commit mA 0 (List.replicate 20 0)).wellFormed = true := by decide

theorem test_wf_bad_message_needs_a_bad_header :
    (Instr.badMessage mA false [0, 1, 2, 3]).wellFormed = false ∧
      (Instr.badMessage mA false [4, 1, 2, 3]).wellFormed = true ∧
      (Instr.badMessage mA false [0, 1, 2]).wellFormed = true := by decide

theorem test_wf_bad_message_fits_a_frame : (Instr.badMessage mA false (List.replicate 25 9)).wellFormed = false := by
  decide

theorem test_wf_ignored_message_is_no_command_and_no_ack :
    (Instr.ignoredMessage mA false [0, 1, 2, 0]).wellFormed = false ∧
      (Instr.ignoredMessage mA false [3, 1, 2, 0]).wellFormed = false ∧
      (Instr.ignoredMessage mA true [0, 1, 1, 0]).wellFormed = false ∧
      (Instr.ignoredMessage mA false [1, 1, 2, 0]).wellFormed = true := by decide

theorem test_wf_ignored_message_fits_a_frame :
    (Instr.ignoredMessage mA false (1 :: List.replicate 24 0)).wellFormed = false := by decide

theorem test_wf_unknown_code_names_no_command :
    (Instr.unknownCommand mA 0 0x1C []).wellFormed = false ∧ (Instr.unknownCommand mA 0 0x1D []).wellFormed = true ∧
      (Instr.unknownCommand mA 0 0x00 (List.replicate 21 0)).wellFormed = false := by decide

theorem test_ill_formed_command_faults :
    exec (.commit mA 0 (List.replicate 21 0)) State.reset = .fault .illFormed := by rfl

/-- The published check value of the polynomial 1021h preset to FFFFh over the digits 1 to 9; spec/ gives none. -/
theorem test_frame_check :
    frameCheck [0x31, 0x32, 0x33, 0x34, 0x35, 0x36, 0x37, 0x38, 0x39] = 0x29B1 := by decide +kernel

/-! ## Frames and entries written out bit by bit (Tables 12-1 and 12-5) -/

/-- The tag zone:item. -/
def tag (zone item : Nat) : Tag := BitVec.ofNat 20 (zone * 16384 + item)

/-- Bytes with their check. -/
def checked (bytes : List Byte) : List Byte := bytes ++ be16 (frameCheck bytes)

/-- QUERY 3:3, class 2, hop 1: kind 01, Reply 0, class 10, hop 001. -/
theorem test_read_query_frame :
    readFrame (checked [0b01010001, 0x00, 0xC0, 0x03, 0]) = some ⟨.query false (tag 3 3), 2, 1, []⟩ := by decide +kernel

/-- MGMT from 33 to 2001, class 1, hop 2, Reply set, two bytes of payload. -/
theorem test_read_mgmt_frame :
    readFrame (checked [0b10101010, 0x7D, 0x10, 0x21, 2, 0xAA, 0xBB]) =
      some ⟨.mgmt true 2001 33, 1, 2, [0xAA, 0xBB]⟩ := by decide +kernel

/-- A length byte of 25 makes a bad frame (R193). -/
theorem test_read_long_frame : readFrame (checked (0 :: 0 :: 0 :: 0 :: 25 :: List.replicate 25 0)) = none := by
  decide +kernel

/-- Entry 3 of Table 1-7: both sides, DATA, 7:512, MASK1, PASS, class 3. -/
theorem test_entry_bytes :
    Entry.ofBytes [0b11101010, 0b00010000, 0x01, 0xC2, 0x00, 0, 0, 0, 0, 0, 0, 0] =
      some
        { Entry.cleared with
          inUse := true, onA := true, onB := true, data := true, mode := .mask 1, tag := tag 7 512
          setClass := some 3 } := by decide +kernel

/-! ## Small states -/

/-- The state after a step, the state before it where the step stops. -/
def after (i : Instr) (s : State) : State :=
  match exec i s with
  | .next t => t
  | .fault _ | .refused _ => s

/-- The reset state at a coupler time. -/
def at_ (now : CTime) : State := { State.reset with now := now }

/-- A frame received with its check. -/
def frame (side : Side) (body : Body) (cls : FClass) (hop : Hop) (payload : Payload) : Instr :=
  .reception side (Frame.bytes ⟨body, cls, hop, payload⟩)

/-- The payloads that stand in a queue. -/
def State.sent (side : Side) (s : State) : List Payload := (s.queues.frames.get side).map (·.frame.payload)

/-- Table 1-7. -/
def tableOne : Bank where
  entries :=
    (((Vector.replicate 64 Entry.cleared).set 0
      { Entry.cleared with inUse := true, onA := true, data := true, tag := tag 12 340, action := .drop }).set 1
      { Entry.cleared with
        inUse := true, onA := true, data := true, query := true, tag := tag 12 0, mode := .mask 0, action := .rewrite
        rewriteTag := tag 40 0, keepItem := true }).set 2
      { Entry.cleared with
        inUse := true, onB := true, query := true, tag := tag 40 0, mode := .mask 0, action := .rewrite
        rewriteTag := tag 12 0, keepItem := true } |>.set 3
      { Entry.cleared with
        inUse := true, onA := true, onB := true, data := true, tag := tag 7 512, mode := .mask 1, setClass := some 3 }
  header := { masks := #v[0xFC000, 0xFFF00, 0, 0], defaults := ⟨.pass, .drop⟩, mgmtPass := .pass }

/-- The part with Table 1-7 active and in the shadow bank. -/
def plant : State :=
  { State.reset with banks := { State.reset.banks with active := tableOne, shadow := tableOne } }

/-- Station 33 owns the session on side A; the last sequence number is 19 (6.6). -/
def owner : Session := ⟨33, 10, 20000, .a, 19, ⟨19, 0x01, .ok, [0x77]⟩⟩

/-- A session added. -/
def owned (s : State) : State := s.withSession (some owner)

/-- A waiting frame. -/
def waiting (t : Tag) (cls : FClass) : QFrame := ⟨⟨.data false t, cls, 2, []⟩, 4000, some 4100, 0, false, .none⟩

/-- A side's queue and attempt set. -/
def queued (side : Side) (q : List QFrame) (s : State) : State :=
  { s with
    queues := { s.queues with frames := s.queues.frames.set side q }
    ports := s.ports.modify side fun p =>
      { p with attempt := (q.find? (·.onLine)).map fun x => ⟨x.frame.bytes, 4022⟩ } }

/-- The trip configuration of 7.7: sources 0, 1 and 2, required set 0 and 1, window 100. -/
def tripThree : TripConfig where
  sources := #v[some ⟨0, 0x01, 0xFF⟩, some ⟨2, 0x80, 0x80⟩, some ⟨1, 0x00, 0x0F⟩, none]
  required := 3
  window := 100

/-- The trip unit of 7.7 in a state. -/
def guarded (state : TripState) (asserted : BitVec 4) (deadline : Option CTime) (s : State) : State :=
  { s with
    trip :=
      { s.trip with
        config := tripThree, state := state, asserted := asserted, deadline := deadline
        isol := state == .tripped
        last := if state = .tripped then some ⟨5350, 0, .a, tag 1 10⟩ else none } }

/-- A report list and REPORT_STATION 33. -/
def reporting (rs : List Report) (s : State) : State :=
  { s with
    agent := { s.agent with params := { s.agent.params with reportStation := 33 } }
    events := { s.events with reports := rs, nextSeq := 9 } }

/-- A report of group TABLE, outstanding after a number of sends. -/
def report (sends : Nat) : Report := ⟨7, .table, 4, 0x0040, 100, true, sends, some 350, false⟩

/-- A record of (A, 5:100). -/
def asked (freshness : Freshness) (bound : Bool) : Record :=
  { Record.allocated .a (tag 5 100) 2025 with
    held := some [77], freshness := freshness, freshUntil := 2346, lastForwarded := some 2046, bound := bound }

/-- Record 3 held. -/
def holding (r : Record) (s : State) : State :=
  { s with tags := { s.tags with records := s.tags.records.set 3 (some r) } }

/-- The outstanding entry Q1 of 3.7 for record 3. -/
def outstanding (s : State) : State :=
  { holding (asked .none true) s with
    proxy := { s.proxy with list := [⟨tag 5 100, .a, 2040, 3, 1, 3⟩] } }

/-- A transfer of 9.7 in progress, or of other counts. -/
def loading (declared expected : Nat) (sum : BitVec 16) (idle : CTime) (s : State) : State :=
  s.withShadowState (.loading ⟨declared, expected, sum, idle⟩)

/-- An image with a sequence. -/
def image (seq : BitVec 32) : Image := { Image.factory 0 false with seq := seq }

/-- Slots that hold images 7 and 8 (11.4). -/
def stored (s : State) : State :=
  { s with image := { s.image with slot0 := Slot.verified (image 7), slot1 := Slot.verified (image 8) } }

/-- Image 9 being written into slot 0 since 20000 (11.4). -/
def storing (s : State) : State :=
  { s with
    image :=
      { s.image with
        slot0 := Slot.written (image 9), slot1 := Slot.verified (image 8)
        store := some ⟨.zero, image 9, 20000⟩ } }

/-! ## One step of each row -/

/-- ISOL goes low at RST_N_LOW (R190). -/
theorem test_rst_n_low :
    (after .rstNLow (guarded .tripped 3 none (at_ 6000))).trip.isol = false ∧
      (after .rstNLow (at_ 6000)).phase = .held := by decide +kernel

/-- A write stops at POWER_LOSS and its target stays DAMAGED (R189). -/
theorem test_power_loss :
    (after .powerLoss (storing (at_ 20100))).image.slot0.state = .damaged ∧
      (after .powerLoss (storing (at_ 20100))).image.store = none := by decide +kernel

/-- Straps 0 to 14 give stations 4080 to 4094, and 15 gives 4079 (R155). -/
theorem test_start_up_straps :
    (after (.startUp 14 false true true) (at_ 0)).agent.params.ownStation = 4094 ∧
      (after (.startUp 15 false true true) (at_ 0)).agent.params.ownStation = 4079 := by decide +kernel

/-- Of images 7 and 8 the newer is loaded; with its slot DAMAGED the other is, and IMAGE_FALLBACK is due (R190). -/
theorem test_start_up_newest :
    (after (.startUp 0 false true true) (stored (at_ 0))).image.loaded = some .one ∧
      (after (.startUp 0 false true false) (stored (at_ 0))).image.loaded = some .zero ∧
      (after (.startUp 0 false true false) (stored (at_ 0))).image.flagDue = some .imageFallback := by decide +kernel

/-- The end of a factory STARTING sets IMAGE_ABSENT, bit 6 of TABLE, at coupler time 0 (R192). -/
theorem test_starting_end :
    (after (.startingEnd false false) (after (.startUp 0 false true true) (at_ 9))).events.flags.table = 0x0040 ∧
      (after (.startingEnd false false) (after (.startUp 0 false true true) (at_ 9))).now = 0 := by decide +kernel

/-- A frame that was in progress when STARTING ended is passed over, a command's frame too, and the next one is
received (R114). -/
theorem test_frame_in_progress_at_start :
    let on := after (.startingEnd false true) (after (.startUp 0 false true true) (at_ 9));
    let next := after (.unknownCommand mB 5 0x30 []) on;
    on.ports.b.awaitsStart = true ∧ on.ports.a.awaitsStart = false ∧ next.agent.counters.commands = 0 ∧
      next.ports.b.acknowledged = false ∧ next.ports.b.counters.receivedGood = 0 ∧
      (after (.unknownCommand mB 6 0x30 []) next).agent.counters.commands = 1 := by decide +kernel

/-- Event 2 of 1.8: 12:341 leaves toward side B as 40:341 with hop 2. -/
theorem test_reception_rewrite :
    ((after (frame .a (.data false (tag 12 341)) 1 3 []) plant).queues.frames.b.map (·.frame)) =
      [⟨.data false (tag 40 341), 1, 2, []⟩] := by decide +kernel

/-- Event 5 of 1.8: 7:530 with hop 0 hits entry 3 and is dropped with HOP_EXPIRED, bit 6 of TRAFFIC. -/
theorem test_reception_hop_expired :
    (after (frame .b (.data false (tag 7 530)) 0 0 []) plant).banks.hits[3] = 1 ∧
      (after (frame .b (.data false (tag 7 530)) 0 0 []) plant).events.flags.traffic = 0x0040 ∧
      (after (frame .b (.data false (tag 7 530)) 0 0 []) plant).queues.frames.a = [] := by decide +kernel

/-- Event 1 of 4.9: the frame goes on the line. -/
theorem test_transmitter_selection :
    (after (.transmitterSelection .a) (queued .a [waiting (tag 12 341) 1] (at_ 4002))).queues.frames.a.map (·.onLine) =
      [true] := by decide +kernel

/-- The line wait ends LINE_ERROR after 20 ms, not before (R100). -/
theorem test_line_wait_expiry :
    (after (.lineWaitExpiry .a) (queued .a [{ waiting (tag 12 341) 1 with onLine := true }] (at_ 4022))).ports.a.score =
        8 ∧
      (after (.lineWaitExpiry .a) (queued .a [{ waiting (tag 12 341) 1 with onLine := true }] (at_ 4021))).ports.a.score =
        0 := by decide +kernel

/-- Event 2 of 4.9: NOACK raises the attempt count to 1 and the frame stays. -/
theorem test_attempt_completion_noack :
    (after (.attemptCompletion .a .noack)
      (queued .a [{ waiting (tag 12 341) 1 with onLine := true }] (at_ 4020))).queues.frames.a =
      [{ waiting (tag 12 341) 1 with attempts := 1 }] := by decide +kernel

/-- Event 5 of 4.9: a stale mark turns LINE_ERROR into removal, counted *stale* with STALE_DROP, bit 2 of TRAFFIC. -/
theorem test_attempt_completion_stale :
    (after (.attemptCompletion .a .lineError)
      (queued .a [{ waiting (tag 12 341) 1 with onLine := true, mark := .stale }] (at_ 4140))).queues.counters.a.stale =
        1 ∧
      (after (.attemptCompletion .a .lineError)
        (queued .a [{ waiting (tag 12 341) 1 with onLine := true, mark := .stale }] (at_ 4140))).events.flags.traffic =
        0x0004 := by decide +kernel

/-- A SILENT side at its recovery deadline is ACTIVE with score 0 (R107). -/
theorem test_recovery_deadline :
    (after (.recoveryDeadline .b)
      ((at_ 7010).onPort .b fun p => { p with state := .silent, score := 192, recovery := some 7010 })).ports.b.view =
      ⟨.active, 0, none, none, false⟩ := by decide +kernel

/-- Event 3 of 4.9: the frame on the line is marked *stale* and stays. -/
theorem test_age_deadline :
    (after (.ageDeadline .a 0)
      (queued .a [{ waiting (tag 12 341) 1 with onLine := true }] (at_ 4100))).queues.frames.a.map (·.mark) =
      [.stale] := by decide +kernel

/-- Event 7 of 3.7: record 3 becomes STALE at 2346 and still holds its value. -/
theorem test_freshness_deadline :
    (after (.freshnessDeadline 3) (holding (asked .fresh false) (at_ 2346))).tags.records[3] =
      some (asked .stale false) := by decide +kernel

/-- Event 4 of 3.7: Q1 goes, record 3 is unbound and side B's *timeout* becomes 1. -/
theorem test_query_entry_deadline :
    (after (.queryEntryDeadline 0) (outstanding (at_ 2040))).proxy.list = [] ∧
      (after (.queryEntryDeadline 0) (outstanding (at_ 2040))).proxy.counters.b.timeout = 1 ∧
      (after (.queryEntryDeadline 0) (outstanding (at_ 2040))).tags.records[3] = some (asked .none false) := by
  decide +kernel

/-- Event 3 of 7.7: the collection lapses at 5100. -/
theorem test_window_deadline :
    (after .windowDeadline (guarded .collecting 1 (some 5100) (at_ 5100))).trip.state = .watching ∧
      (after .windowDeadline (guarded .collecting 1 (some 5100) (at_ 5100))).events.flags.guard = 0x0002 := by
  decide +kernel

/-- Event 8 of 8.9: the lease ends, the transfer is aborted and LEASE_EXPIRED set. -/
theorem test_lease_deadline :
    (after .leaseDeadline (loading 3 0 0 22000 (owned (at_ 20000)))).agent.session = none ∧
      (after .leaseDeadline (loading 3 0 0 22000 (owned (at_ 20000)))).banks.shadowState = .incomplete ∧
      (after .leaseDeadline (loading 3 0 0 22000 (owned (at_ 20000)))).events.flags.guard = 0x0008 := by decide +kernel

/-- An idle transfer is aborted with LOAD_ABORTED, bit 2 of TABLE (R170, R171). -/
theorem test_idle_deadline :
    (after .idleDeadline (loading 3 1 1544 10020 (owned (at_ 10020)))).banks.shadowState = .incomplete ∧
      (after .idleDeadline (loading 3 1 1544 10020 (owned (at_ 10020)))).events.flags.table = 0x0044 := by
  decide +kernel

/-- A report is sent again 250 ms on, and given up after 4 sends (R181). -/
theorem test_retry_deadline :
    (after .retryDeadline (reporting [report 1] (at_ 350))).events.reports.map (fun r => (r.sends, r.retry)) =
        [(2, some 600)] ∧
      (after .retryDeadline (reporting [report 4] (at_ 350))).events.reports = [] := by decide +kernel

/-- A verified write makes the slot VALID with STORE_DONE, bit 3 of TABLE; before 200 ms none ends (R188). -/
theorem test_store_completion :
    (after (.storeCompletion true) (storing (at_ 20200))).image.slot0 = Slot.verified (image 9) ∧
      (after (.storeCompletion true) (storing (at_ 20200))).events.flags.table = 0x0048 ∧
      (after (.storeCompletion true) (storing (at_ 20199))).image.store ≠ none := by decide +kernel

/-- An ACK from REPORT_STATION with the sequence number settles the report (R182). -/
theorem test_ack :
    (after (.ack mA 7) (reporting [report 1] (at_ 200))).events.reports = [] ∧
      (after (.ack mA 8) (reporting [report 1] (at_ 200))).events.counters.ignoredAck = 1 := by decide +kernel

/-- A message of type 4 is counted and not answered (R143). -/
theorem test_bad_message :
    (after (.badMessage mA false [4, 0, 0, 0]) (at_ 0)).agent.counters.badMessage = 1 ∧
      (after (.badMessage mA false [4, 0, 0, 0]) (at_ 0)).queues.frames.a = [] := by decide +kernel

/-- A broadcast OPEN is ignored and goes on to the far side (R29, R143). -/
theorem test_ignored_message :
    (after (.ignoredMessage mA true [0, 1, 2, 0, 5]) (at_ 0)).agent.counters.ignoredMessage = 1 ∧
      State.sent .b (after (.ignoredMessage mA true [0, 1, 2, 0, 5]) (at_ 0)) = [[0, 1, 2, 0, 5]] := by decide +kernel

/-- A code that names no command is answered with status 9 (R144). -/
theorem test_unknown_command :
    State.sent .a (after (.unknownCommand mA 5 0x30 []) (at_ 0)) = [[0x01, 5, 0x30, 9]] := by decide +kernel

/-- IDENTIFY of the reset state: part 0412h, revision 1, station 4080, strap 0, factory state, no owner (R157). -/
theorem test_identify :
    State.sent .a (after (.identify mA false 5 []) (at_ 0)) =
      [[0x01, 5, 0x01, 0, 0x04, 0x12, 0x01, 0x0F, 0xF0, 0, 0x02, 0x0F, 0xFF, 0, 0, 0, 0]] := by decide +kernel

/-- A broadcast IDENTIFY with hop 0 is answered and dropped for forwarding with HOP_EXPIRED (R29). -/
theorem test_identify_broadcast_hop_expired :
    let t := after (.identify { mA with hop := 0 } true 5 []) (at_ 0);
    (State.sent .a t).length = 1 ∧ State.sent .b t = [] ∧ t.banks.classifier.a.hopExpired = 1 ∧
      t.events.flags.traffic = 0x0040 := by decide +kernel

/-- Event 1 of 8.9: station 33 becomes the owner with lease deadline 2000. -/
theorem test_open :
    (after (.openSession mA 7 [1]) (at_ 1000)).agent.session =
      some ⟨33, 1, 2000, .a, 7, ⟨7, 0x02, .ok, [0x00, 0x21, 1]⟩⟩ := by decide +kernel

/-- Event 2 of 8.9: station 50 is refused with the owner and its side. -/
theorem test_open_refused :
    State.sent .b (after (.openSession mB 1 [1]) (owned (at_ 1200))) =
      [[0x01, 1, 0x02, 2, 0x00, 0x21, 0]] := by decide +kernel

/-- CLOSE ends the session and is not cached (R150). -/
theorem test_close :
    (after (.closeSession mA 20 []) (owned (at_ 100))).agent.session = none ∧
      State.sent .a (after (.closeSession mA 20 []) (owned (at_ 100))) = [[0x01, 20, 0x03, 0]] := by decide +kernel

/-- READ_STATUS SIDE B of the reset state: nothing pending, ACTIVE, score 0, recovery absent, queue empty (R158). -/
theorem test_read_status :
    State.sent .a (after (.readStatus mA 5 [2]) (at_ 0x01020304)) =
      [[0x01, 5, 0x04, 0, 1, 2, 3, 4, 0, 0, 0, 0xFF, 0xFF, 0xFF, 0xFF, 0, 0, 0, 0]] := by decide +kernel

/-- The tag memory set has five counters, read from a position (R159, Table 2-4). -/
theorem test_read_counters :
    State.sent .a (after (.readCounters mA 5 [2, 3]) ((at_ 0).countTag fun c => { c with flushed := 258 })) =
      [[0x01, 5, 0x05, 0, 2, 3, 0, 0, 0, 0, 0, 0, 1, 2]] := by decide +kernel

/-- CLEAR_COUNTERS of one set leaves the others (R159). -/
theorem test_clear_counters :
    (after (.clearCounters mA 20 [2])
      ((owned (at_ 0)).countTag fun c => { c with flushed := 258 })).tags.counters.flushed = 0 ∧
      (after (.clearCounters mA 20 [3])
        ((owned (at_ 0)).countTag fun c => { c with flushed := 258 })).tags.counters.flushed = 258 := by decide +kernel

/-- Entry 3 of Table 1-7 as READ_ENTRY returns it with its hit count (R123, Table 12-5). -/
theorem test_read_entry :
    State.sent .a (after (.readEntry mA 5 [0, 3]) (plant.hit 3)) =
      [[0x01, 5, 0x07, 0, 0, 0, 3, 0b11101010, 0b00010000, 0x01, 0xC2, 0x00, 0, 0, 0, 0, 0, 0, 0, 0, 0, 0, 1]] := by
  decide +kernel

/-- Event 1 of 6.6: entry 4 is written to the shadow bank alone, and shadow-writes becomes 1. -/
theorem test_write_entry :
    ((after (.writeEntry mA 20 [4, 0xC8, 0x01, 1, 0xC3, 0x84, 0, 0, 0, 0, 0, 0, 0]) (owned plant)).banks.shadow.entries[4]) =
        { Entry.cleared with inUse := true, onB := true, data := true, tag := tag 7 900, filter := .repeated } ∧
      (after (.writeEntry mA 20 [4, 0xC8, 0x01, 1, 0xC3, 0x84, 0, 0, 0, 0, 0, 0, 0])
        (owned plant)).banks.counters.shadowWrites = 1 := by decide +kernel

/-- Masks and settings written to the shadow header (R121). -/
theorem test_write_masks_defaults :
    (after (.writeMasksDefaults mA 20 [0x0F, 0xC0, 0, 0, 0, 0, 0, 0, 0, 0, 0, 7, 1, 0, 1])
      (owned (at_ 0))).banks.shadow.header = ⟨#v[0xFC000, 0, 0, 7], ⟨.drop, .pass⟩, .drop⟩ := by decide +kernel

/-- COPY_ACTIVE takes INCOMPLETE to CLEAN (R122). -/
theorem test_copy_active :
    (after (.copyActive mA 20 []) ((owned plant).withShadowState .incomplete)).banks.shadowState = .clean ∧
      State.sent .a (after (.copyActive mA 20 []) (loading 1 0 0 9 (owned plant))) = [[0x01, 20, 0x0A, 3]] := by
  decide +kernel

/-- The shadow bank T2 with window 0, then 500, in entry 4 (6.6). -/
def editTwo (window : BitVec 16) (s : State) : State :=
  s.applyItem (.entry 4
    { Entry.cleared with
      inUse := true, onB := true, data := true, tag := tag 7 900, filter := .repeated, window := window })

/-- Event 2 of 6.6: COMMIT is refused with index 4 and ZERO_WINDOW, and COMMIT_REFUSED, bit 1 of TABLE, is set. -/
theorem test_commit_refused :
    State.sent .a (after (.commit mA 21 []) (editTwo 0 (owned plant))) = [[0x01, 21, 0x0B, 6, 4, 5]] ∧
      (after (.commit mA 21 []) (editTwo 0 (owned plant))).events.flags.table = 0x0042 := by decide +kernel

/-- Event 4 of 6.6: the banks swap, the hits are 0 and 5 entries are in use. -/
theorem test_commit :
    State.sent .a (after (.commit mA 23 []) ((editTwo 500 (owned plant)).hit 1)) = [[0x01, 23, 0x0B, 0, 5]] ∧
      (after (.commit mA 23 []) ((editTwo 500 (owned plant)).hit 1)).banks.hits[1] = 0 ∧
      ((after (.commit mA 23 []) ((editTwo 500 (owned plant)).hit 1)).banks.active.entries[4]).inUse = true := by
  decide +kernel

/-- Event 1 of 9.7: LOADING with nothing applied and idle deadline 10000. -/
theorem test_load_begin :
    (after (.loadBegin mA 41 [3]) (owned (at_ 8000))).banks.shadowState = .loading ⟨3, 0, 0, 10000⟩ := by decide +kernel

/-- Event 4 of 9.7: a part above the expected one is a SEQUENCE_GAP, and the transfer is aborted. -/
theorem test_load_part_gap :
    State.sent .a (after (.loadPart mA 44 [2, 2, 1]) (loading 3 1 1544 10020 (owned (at_ 8060)))) =
        [[0x01, 44, 0x0D, 7, 2, 1]] ∧
      (after (.loadPart mA 44 [2, 2, 1]) (loading 3 1 1544 10020 (owned (at_ 8060)))).banks.shadowState =
        .incomplete := by decide +kernel

/-- The header item of sum 1 + 15 + 192 + 1 is applied and summed, and the idle deadline renewed (R166). -/
theorem test_load_part :
    (after (.loadPart mA 42 [0, 1, 0x0F, 0xC0, 0, 0, 0, 0, 0, 0, 0, 0, 0, 0, 0, 1, 0])
      (loading 3 0 0 10000 (owned (at_ 8020)))).banks.shadowState = .loading ⟨3, 1, 209, 10020⟩ := by decide +kernel

/-- Event 11 of 9.7: LOAD_END with checksum 3146 makes the shadow CLEAN. -/
theorem test_load_end :
    State.sent .a (after (.loadEnd mA 50 [0x0C, 0x4A]) (loading 3 3 3146 10320 (owned (at_ 8340)))) =
        [[0x01, 50, 0x0E, 0, 3, 0x0C, 0x4A]] ∧
      (after (.loadEnd mA 50 [0x0C, 0x4A]) (loading 3 3 3146 10320 (owned (at_ 8340)))).banks.shadowState = .clean := by
  decide +kernel

/-- Page 0 of record 3 by its key (R49, Table 12-10). -/
theorem test_read_record :
    State.sent .a (after (.readRecord mA 5 [0, 1, 0, 0x01, 0x40, 0x64]) (holding (asked .fresh false) (at_ 2100))) =
      [[0x01, 5, 0x0F, 0, 3, 0b00101101, 0x01, 0x40, 0x64, 0, 0, 0x09, 0x2A, 0, 0, 0x07, 0xFE, 0, 0, 0x07, 0xE9,
        0]] := by decide +kernel

/-- FLUSH_RECORDS frees an unbound record and leaves a bound one (R48). -/
theorem test_flush_records :
    State.sent .a (after (.flushRecords mA 20 []) (holding (asked .fresh false) (owned (at_ 0)))) =
        [[0x01, 20, 0x10, 0, 1, 0]] ∧
      State.sent .a (after (.flushRecords mA 20 []) (outstanding (owned (at_ 0)))) = [[0x01, 20, 0x10, 0, 0, 1]] := by
  decide +kernel

/-- READ_QUERIES of Q1 at 2025 (R67, Table 3-4). -/
theorem test_read_queries :
    State.sent .a (after (.readQueries mA 5 [0]) (outstanding (at_ 2025))) =
      [[0x01, 5, 0x11, 0, 0, 0, 0x07, 0xE9, 1, 0, 0x01, 0x40, 0x64, 0, 0, 0, 0x07, 0xF8, 3, 1, 3]] := by decide +kernel

/-- Event 4 of 4.9: a frame that carries a mark is neither removed nor marked. -/
theorem test_cancel_tag :
    (State.sent .a (after (.cancelTag mA 20 [0x03, 0x01, 0x55, 0])
      (queued .a [{ waiting (tag 12 341) 1 with onLine := true, mark := .stale }] (owned (at_ 4130))))).head? =
      some [0x01, 20, 0x12, 0, 0, 0] := by decide +kernel

/-- SIDE_CONTROL OFF purges the side and keeps its score (R109). -/
theorem test_side_control_off :
    State.sent .a (after (.sideControlOff mA 20 1)
      (queued .b [waiting (tag 1 1) 1] ((owned (at_ 0)).onPort .b fun p => { p with score := 40 }))) =
        [[0x01, 20, 0x13, 0, 1, 3, 40]] ∧
      (after (.sideControlOff mA 20 1) (queued .b [waiting (tag 1 1) 1] (owned (at_ 0)))).queues.counters.b.purgedOff =
        1 := by decide +kernel

/-- SIDE_CONTROL ON of an ACTIVE side is BAD_STATE (R110). -/
theorem test_side_control_on :
    State.sent .a (after (.sideControlOn mA 20 1) (owned (at_ 0))) = [[0x01, 20, 0x13, 5, 1, 0, 0]] := by decide +kernel

/-- SIDE_CONTROL RECOVER of a SILENT side sets B_RECOVERED, bit 7 of PORT (R108). -/
theorem test_side_control_recover :
    (after (.sideControlRecover mA 20 1)
      ((owned (at_ 0)).onPort .b fun p => { p with state := .silent, score := 200 })).events.flags.port = 0x0080 := by
  decide +kernel

/-- Event 4 of 8.9: a ceiling below the queue's length is BAD_STATE. -/
theorem test_set_config_refused :
    State.sent .a (after (.setConfig mA 8 [6, 0, 16])
      (queued .b (List.replicate 20 (waiting (tag 1 1) 1)) (owned (at_ 1500)))) = [[0x01, 8, 0x14, 5]] := by
  decide +kernel

/-- Event 5 of 8.9: CEILING_B becomes 24. -/
theorem test_set_config :
    (after (.setConfig mA 9 [6, 0, 24])
      (queued .b (List.replicate 20 (waiting (tag 1 1) 1)) (owned (at_ 2000)))).agent.params.ceiling = ⟨32, 24⟩ := by
  decide +kernel

/-- AUTO_RECOVER_MS defaults to 1000 (Table 8-5). -/
theorem test_read_config :
    State.sent .a (after (.readConfig mA 5 [4]) (at_ 0)) = [[0x01, 5, 0x15, 0, 4, 0x03, 0xE8]] := by decide +kernel

/-- Event 8 of 7.7: SET_TRIP while TRIPPED is BAD_STATE. -/
theorem test_set_trip_refused :
    State.sent .a (after (.setTrip mA 20 (List.replicate 15 0)) (guarded .tripped 3 none (owned (at_ 6000)))) =
      [[0x01, 20, 0x16, 5, 3]] := by decide +kernel

/-- Event 9 of 7.7: the unit becomes WATCHING with ISOL low, and the trip record stays. -/
theorem test_release_trip :
    (after (.releaseTrip mA 20 []) (guarded .tripped 3 none (owned (at_ 6100)))).trip.state = .watching ∧
      (after (.releaseTrip mA 20 []) (guarded .tripped 3 none (owned (at_ 6100)))).trip.isol = false ∧
      (after (.releaseTrip mA 20 []) (guarded .tripped 3 none (owned (at_ 6100)))).trip.last =
        some ⟨5350, 0, .a, tag 1 10⟩ := by decide +kernel

/-- Group TABLE of the reset state: IMAGE_ABSENT set, all seven enabled, raised, level 4 (R185). -/
theorem test_read_events :
    State.sent .a (after (.readEvents mA 5 [1, 0]) (at_ 0)) =
      [[0x01, 5, 0x18, 0, 1, 0, 0x40, 0, 0x7F, 1, 4]] := by decide +kernel

/-- CLEAR_EVENTS clears the named flag (R176). -/
theorem test_clear_events :
    (after (.clearEvents mA 20 [1, 0, 0x40]) (owned (at_ 0))).events.flags.table = 0 := by decide +kernel

/-- Enabling a set flag raises its group, and with REPORT_STATION 33 one report is made and sent (R175, R177). -/
theorem test_enable_events :
    (after (.enableEvents mA 20 [1, 0, 0x40])
      (reporting [] { owned (at_ 0) with events := { State.reset.events with enables := ⟨0, 0, 0, 0⟩ } })).events.reports.map
        (fun r => (r.seq, r.group, r.level, r.snapshot, r.sends)) = [(9, .table, 4, 0x0040, 1)] := by decide +kernel

/-- TRAFFIC is raised by its enables; the report's first send finds the pool full, and the response, composed after it,
shows POOL_FULL, bit 0 (R77, R177). -/
theorem test_enable_events_sees_its_send :
    (after (.enableEvents mA 20 [2, 0, 0x40])
      (reporting []
        (queued .b (List.replicate 16 (waiting (tag 1 1) 3)) (queued .a (List.replicate 32 (waiting (tag 1 1) 3))
          { owned (at_ 4050) with
            events := { State.reset.events with flags := ⟨0, 0, 0x40, 0⟩, enables := ⟨0, 0, 0, 0⟩ } })))).agent.session =
      some { owner with
        deadline := 14050, lastSeq := 20, cached := ⟨20, 0x1A, .ok, [2, 0, 0x41, 0, 0x40, 1, 2]⟩ } := by
  decide +kernel

/-- Event 1 of 11.4: image 9 goes into slot 0, which held the older image and becomes DAMAGED. -/
theorem test_store :
    (after (.store mA 20 []) (owned (stored (at_ 20000)))).image.slot0.state = .damaged ∧
      (after (.store mA 20 []) (owned (stored (at_ 20000)))).image.slot1 = Slot.verified (image 8) ∧
      ((after (.store mA 20 []) (owned (stored (at_ 20000)))).image.store.map fun x => (x.target, x.snapshot.seq)) =
        some (.zero, 9) := by decide +kernel

/-- RESTART empties the queue and keeps the session and the hits (R161). -/
theorem test_restart :
    (after (.restart mA 20 []) (queued .b [waiting (tag 1 1) 1] ((owned plant).hit 2))).queues.frames.b = [] ∧
      (after (.restart mA 20 []) (queued .b [waiting (tag 1 1) 1] ((owned plant).hit 2))).banks.hits[2] = 1 ∧
      (after (.restart mA 20 []) (queued .b [waiting (tag 1 1) 1] ((owned plant).hit 2))).agent.session.isSome := by
  decide +kernel

/-- A duplicate is answered from the cache and not executed (R152). -/
theorem test_duplicate :
    State.sent .a (after (.restart mA 19 []) (queued .b [waiting (tag 1 1) 1] (owned plant))) =
        [[0x01, 19, 0x01, 0, 0x77]] ∧
      State.sent .b (after (.restart mA 19 []) (queued .b [waiting (tag 1 1) 1] (owned plant))) = [[]] := by
  decide +kernel

/-! ## States and operands that meet the hypotheses of the obligations, clause by clause -/

/-- A command waits. -/
def pended (c : Instr) (s : State) : State := { s with pending := [c] }

/-- The part held by RST_N low. -/
def held : State := after .rstNLow State.reset

/-- The part in STARTING after a factory start-up. -/
def starting : State := after (.startUp 0 false true true) held

/-- Side A is OFF. -/
def offA : State := State.reset.onPort .a fun p => { p with state := .off }

/-- A side's state, score and recovery deadline set. -/
def ported (side : Side) (state : SideState) (score : Nat) (recovery : Option CTime) (s : State) : State :=
  s.onPort side fun p => { p with state := state, score := score, recovery := recovery }

/-- The slots hold images with two sequences. -/
def twoImages (zero one : BitVec 32) : State :=
  { State.reset with
    image :=
      { State.reset.image with slot0 := Slot.verified (image zero), slot1 := Slot.verified (image one) } }

/-- Table 1-7 with management-pass DROP. -/
def closed : State :=
  { plant with
    banks :=
      { plant.banks with
        active := { tableOne with header := { tableOne.header with mgmtPass := .drop } } } }

/-- Entries 4 and 5 filter 7:900 (REPEAT, PROXY) and 7:901 (SETTLE2) of side B, whose records 3 and 4 are held. -/
def filtering (now : CTime) : State :=
  { State.reset with
    now := now
    banks :=
      { plant.banks with
        active :=
          { tableOne with
            entries :=
              (tableOne.entries.set 4
                { Entry.cleared with
                  inUse := true, onB := true, data := true, tag := tag 7 900, filter := .repeated, window := 500
                  action := .proxy, freshness := 300 }).set 5
                { Entry.cleared with
                  inUse := true, onB := true, data := true, tag := tag 7 901, filter := .settle2 } } }
    tags :=
      { State.reset.tags with
        records :=
          (State.reset.tags.records.set 3
            (some
              { Record.allocated .b (tag 7 900) 2000 with held := some [77], lastForwarded := some 2046 })).set 4
            (some (Record.allocated .b (tag 7 901) 2000)) } }

/-- A port takes the frame: what the statements on reception ask for in common. -/
abbrev Takes (s : State) (side : Side) (f : Frame) : Prop :=
  s.Receives side ∧ s.Quiet ∧ f.payload.length ≤ Config.payload

/-- A frame wins an entry, as `Obligations.MatchedFramesCrossOrStop` asks. -/
abbrev Wins (s : State) (side : Side) (f : Frame) (query reply : Bool) (t : Tag) (i : Fin 64) : Prop :=
  Takes s side f ∧ f.body = (if query then .query false t else .data reply t) ∧ (query = true → f.payload = []) ∧
    s.trip.state ≠ .tripped ∧ s.banks.active.winner side query t = some i ∧
    (query = false → (s.banks.active.entries[i]).trip = none)

/-- A queue of waiting frames of class 1. -/
def many (n : Nat) : List QFrame := List.replicate n (waiting (tag 1 1) 1)

/-- 12:341 on the line of side A. -/
def onAir : QFrame := { waiting (tag 12 341) 1 with onLine := true }

/-- A tag memory with every record held, the record of number n bound just when `bound n`. -/
def crowded (bound : Nat → Bool) : TagMemory :=
  { State.reset.tags with
    records := Vector.ofFn fun i =>
      some { Record.allocated .a (tag 1 i.val) (BitVec.ofNat 32 (i.val / 4)) with bound := bound i.val } }

/-- A list of outstanding entries of zone 2. -/
def asking (n : Nat) (s : State) : State :=
  { s with
    proxy :=
      { s.proxy with
        list := (List.range n).map fun k => ⟨tag 2 k, .a, 2040, 1, 1, ⟨k % 48, Nat.mod_lt _ (by decide)⟩⟩ } }

/-- Entry 6 of the active bank gives 5:100 of side B to the proxy, its class setting `c`. -/
def proxying (c : Option FClass) (s : State) : State :=
  { s with
    banks :=
      { s.banks with
        active :=
          { tableOne with
            entries :=
              tableOne.entries.set 6
                { Entry.cleared with
                  inUse := true, onB := true, query := true, tag := tag 5 100, action := .proxy, freshness := 300
                  setClass := c } } } }

/-- Entry 9 of the active bank names a trip source for 0:0 of side A. -/
def watched (k : Fin 4) (action : Action) (s : State) : State :=
  { s with
    banks :=
      { s.banks with
        active :=
          { s.banks.active with
            entries :=
              s.banks.active.entries.set 9
                { Entry.cleared with
                  inUse := true, onA := true, data := true, action := action, trip := some k } } } }

/-- A frame that no entry claims, as `Obligations.UnmatchedFramesTakeTheDefault` asks. -/
abbrev Unclaimed (s : State) (side : Side) (query reply : Bool) (t : Tag) (f : Frame) : Prop :=
  Takes s side f ∧ (query = true → f.payload = []) ∧
    f.body = (if query then .query false t else .data reply t) ∧ s.trip.state ≠ .tripped ∧
    s.banks.active.winner side query t = none

/-- 24 bytes of payload. -/
def full : Payload := List.replicate 24 0xA5

theorem witness_StepTakesTheFront :
    (pended .rstNLow State.reset).pending = .rstNLow :: [] ∧
      (State.reset.pending = [] ∧ State.reset.phase = .running) ∧ held.pending = [] ∧ held.phase ≠ .running := by
  decide +kernel

theorem witness_CommandsCompleteAndKeepTheQueue :
    (Instr.commit mA 0 (List.replicate 20 0)).wellFormed = true ∧
      (Instr.commit mA 0 (List.replicate 21 0)).wellFormed = false := by decide +kernel

theorem witness_NothingIsTakenWhileNotRunning :
    (held.phase ≠ .running ∧ (Instr.commit mA 0 []).isPowerEvent = false ∧
      (Instr.commit mA 0 []).wellFormed = true) ∧
    (pended (.commit mA 0 []) held).HeldOk ∧ step (pended (.commit mA 0 []) held) = .next held := by
  exact ⟨by decide +kernel, by decide +kernel, rfl⟩

/-- Slot 1 is newest up to a distance of 2147483647, and slot 0 from one more on (R186); a single VALID slot is newest
whatever the other holds. -/
theorem witness_StartUpLoadsTheNewestImage :
    (((twoImages 8 2147483655).image.slot1.examined true).image = some (image 2147483655) ∧
      ∀ other ∈ ((twoImages 8 2147483655).image.slot0.examined true).image,
        1 ≤ ((2147483655 : BitVec 32) - other.seq).toNat ∧
          ((2147483655 : BitVec 32) - other.seq).toNat ≤ 2147483647) ∧
    (((twoImages 8 2147483656).image.slot0.examined true).image = some (image 8) ∧
      ∀ other ∈ ((twoImages 8 2147483656).image.slot1.examined true).image,
        ¬(1 ≤ (other.seq - (8 : BitVec 32)).toNat ∧ (other.seq - (8 : BitVec 32)).toNat ≤ 2147483647)) ∧
    ((twoImages 8 9).image.slot0.examined true).image = some (image 8) ∧
    ((twoImages 8 9).image.slot1.examined false).image = none := by decide +kernel

theorem witness_StartUpWithoutAnImageIsFactory :
    ((State.reset.image.slot0.examined true).state ≠ .valid ∧
      (State.reset.image.slot1.examined true).state ≠ .valid) ∧
    ((twoImages 8 9).image.slot0.examined false).state ≠ .valid ∧
    ((twoImages 8 9).image.slot1.examined false).state ≠ .valid := by decide +kernel

theorem witness_ACutWriteIsFoundDamaged :
    (storing (at_ 20100)).image.store = some ⟨.zero, image 9, 20000⟩ ∧
      (storing (at_ 20100)).image.slot .zero = Slot.written (image 9) ∧
      (storing (at_ 20100)).image.slot .one = Slot.verified (image 8) := by decide +kernel

theorem witness_StartingEndSetsTheImageFlag :
    starting.phase = .starting ∧ starting.image.flagDue = some .imageAbsent ∧ starting.Unreported := by decide +kernel

/-- A frame in progress on side A, OFF, when STARTING ended; a later one there; a bad frame of each kind. -/
theorem witness_PortsDiscardWhatTheyMayNotTake :
    (let s := offA.onPort .a fun p => { p with awaitsStart := true };
      s.phase = .running ∧ s.Quiet ∧ (s.ports.get .a).awaitsStart = true) ∧
    (offA.phase = .running ∧ offA.Quiet ∧ (offA.ports.get .a).awaitsStart = false ∧
      (offA.ports.get .a).state = .off) ∧
    State.reset.Receives .a ∧ State.reset.Unreported ∧ readFrame [] = none ∧
      readFrame (checked [0x04, 0x01, 0x55, 0x00, 1]) = none := by decide +kernel

theorem witness_MalformedAndGatedFramesAreDropped :
    Takes plant .b ⟨.unknown, 0, 0, full⟩ ∧ Takes plant .b ⟨.query true (tag 1 1), 0, 7, []⟩ ∧
      Takes plant .b ⟨.query false (tag 1 1), 0, 7, [0]⟩ ∧
      Takes (guarded .tripped 3 none (at_ 6000)) .a ⟨.query false (tag 1 1), 0, 7, []⟩ ∧
      Takes (guarded .tripped 3 none (at_ 6000)) .a ⟨.data true (tag 1 1), 0, 7, full⟩ ∧
      (guarded .tripped 3 none (at_ 6000)).trip.state = .tripped := by decide +kernel

/-- A DATA reply and a QUERY that cross, one frame dropped by its entry, and one that crosses no more with hop 0. -/
theorem witness_MatchedFramesCrossOrStop_crossing :
    (Wins plant .a ⟨.data true (tag 7 512), 1, 1, full⟩ false true (tag 7 512) 3 ∧
      (tableOne.entries[3]).action = .pass ∧ (tableOne.entries[3]).filter = .none ∧ plant.Room .b) ∧
    (Wins plant .a ⟨.query false (tag 12 0), 1, 7, []⟩ true false (tag 12 0) 1 ∧
      (tableOne.entries[1]).action = .rewrite ∧ plant.Room .b) ∧
    (Wins plant .a ⟨.data false (tag 12 340), 1, 0, []⟩ false false (tag 12 340) 0 ∧
      (tableOne.entries[0]).action = .drop) ∧
    Wins plant .a ⟨.data false (tag 7 512), 1, 0, full⟩ false false (tag 7 512) 3 ∧ plant.Unreported := by
  and_intros <;> decide +kernel

/-- The verdict of the filter of entry `i` on a payload for the record of number `k`. -/
def verdictOf (s : State) (i : Fin 64) (k : Fin 48) (p : Payload) : Option Verdict :=
  (s.tags.records[k]).map fun r =>
    (({ r with lastUse := s.now } : Record).filtered (s.banks.active.entries[i]).filter
      (s.banks.active.entries[i]).window p s.now).2

/-- At 499 ms a repetition is absorbed under a window of 500, at its end it passes, and so does another value, with hop
0 and with more; the first sighting of a value under SETTLE2 is unsettled. -/
theorem witness_MatchedFramesCrossOrStop_filtering :
    let s := filtering 2545;
    (Wins s .b ⟨.data false (tag 7 900), 1, 1, [77]⟩ false false (tag 7 900) 4 ∧
      (s.banks.active.entries[4]).action = .proxy ∧ s.tags.find .b (tag 7 900) = some 3) ∧
    (verdictOf s 4 3 [77] = some .repeated ∧ verdictOf (filtering 2546) 4 3 [77] = some .pass ∧
      verdictOf s 4 3 [78] = some .pass ∧ Wins s .b ⟨.data false (tag 7 900), 1, 0, [78]⟩ false false (tag 7 900) 4 ∧
      s.Room .a ∧ s.Unreported) ∧
    (Wins s .b ⟨.data false (tag 7 901), 1, 1, [78]⟩ false false (tag 7 901) 5 ∧
      (s.banks.active.entries[5]).action ≠ .drop ∧ (s.banks.active.entries[5]).filter ≠ .none ∧
      s.tags.find .b (tag 7 901) = some 4 ∧ verdictOf s 5 4 [78] = some .unsettled) := by
  and_intros <;> decide +kernel

/-- 7:901 asked for from side A: its record 4, bound, has seen [78] `seen` times under SETTLE2. -/
def asked901 (seen : Nat) : State :=
  { filtering 2545 with
    proxy := { State.reset.proxy with list := [⟨tag 7 901, .b, 2900, 1, 1, 4⟩] }
    tags :=
      { State.reset.tags with
        records :=
          State.reset.tags.records.set 4
            (some
              { Record.allocated .b (tag 7 901) 2000 with
                candidate := if seen = 0 then none else some [78], candidateCount := seen, bound := true }) } }

/-- A reply that settles a query and wins a PASS entry with a filter, which passes it or does not. -/
theorem witness_MatchedFramesCrossOrStop_settling :
    (Wins (asked901 1) .b ⟨.data true (tag 7 901), 1, 1, [78]⟩ false true (tag 7 901) 5 ∧
      (asked901 1).tags.find .b (tag 7 901) = some 4 ∧ (∃ q ∈ (asked901 1).proxy.list, q.key = (.b, tag 7 901)) ∧
      ((asked901 1).banks.active.entries[5]).action = .pass ∧ verdictOf (asked901 1) 5 4 [78] = some .pass ∧
      (asked901 1).Room .a) ∧
    verdictOf (asked901 0) 5 4 [78] = some .unsettled := by
  and_intros <;> decide +kernel

/-- The reply passes on its second sighting, and its record is left as the settlement left it: unbound, holding no value
(R62; log entry 24). -/
theorem test_settling_reply_leaves_the_record_under_a_filter :
    let t := after (.reception .b (Frame.bytes ⟨.data true (tag 7 901), 1, 1, [78]⟩)) (asked901 1);
    t.queues.frames.a.length = 1 ∧
      (t.tags.records[4]).map (fun r => (r.bound, r.held, r.candidateCount)) = some (false, none, 1) := by
  decide +kernel

/-- The same key without a record: one is allocated, or, with all of them bound, none is to be had. -/
theorem witness_MatchedFramesCrossOrStop_allocating :
    let s := { filtering 2545 with tags := State.reset.tags };
    let u := { filtering 2545 with tags := crowded fun _ => true };
    (Wins s .b ⟨.data false (tag 7 900), 1, 1, [77]⟩ false false (tag 7 900) 4 ∧ s.tags.find .b (tag 7 900) = none ∧
      (s.tags.allocate .b (tag 7 900) s.now).2 = some 0) ∧
    (Wins u .b ⟨.data false (tag 7 900), 1, 1, [77]⟩ false false (tag 7 900) 4 ∧ u.tags.find .b (tag 7 900) = none ∧
      (u.tags.allocate .b (tag 7 900) u.now).2 = none ∧ u.Unreported ∧ u.Room .a) := by
  and_intros <;> decide +kernel

/-- A QUERY and two DATA frames, and a reply that settles the outstanding query of 5:100 from side A. -/
theorem witness_UnmatchedFramesTakeTheDefault :
    (Unclaimed plant .b true false (tag 1 1) ⟨.query false (tag 1 1), 1, 1, []⟩ ∧
      plant.banks.active.header.defaults.get .b = .drop) ∧
    (Unclaimed plant .a false false (tag 1 1) ⟨.data false (tag 1 1), 1, 1, full⟩ ∧
      Unclaimed plant .a false false (tag 1 1) ⟨.data false (tag 1 1), 1, 0, full⟩ ∧
      plant.banks.active.header.defaults.get .a = .pass ∧ plant.Room .b ∧ plant.Unreported) ∧
    (let s := outstanding plant;
      Unclaimed s .a false true (tag 5 100) ⟨.data true (tag 5 100), 1, 1, full⟩ ∧
        s.proxy.find .a (tag 5 100) ≠ none ∧ s.Room .b) := by
  and_intros <;> decide +kernel

theorem witness_ManagementFramesAreRouted :
    (Takes plant .a ⟨.mgmt false 2001 0, 1, 1, full⟩ ∧ Takes plant .a ⟨.mgmt false 2001 4095, 1, 1, full⟩ ∧
      Takes plant .a ⟨.mgmt false 4095 33, 1, 1, full⟩ ∧ plant.agent.params.ownStation = 4080) ∧
    (Takes closed .a ⟨.mgmt false 2001 33, 1, 1, full⟩ ∧ closed.banks.active.header.mgmtPass = .drop) ∧
    (Takes plant .a ⟨.mgmt false 1 4094, 1, 1, full⟩ ∧ plant.banks.active.header.mgmtPass = .pass ∧ plant.Room .b) ∧
    Takes plant .a ⟨.mgmt false 1 4094, 1, 0, full⟩ ∧ plant.Unreported := by
  and_intros <;> decide +kernel

/-- A broadcast IDENTIFY under management-pass DROP, and under PASS with room for the answer and for the copy, and with
hop 0. -/
theorem witness_ManagementFramesAreRouted_identify :
    (closed.Hears mA ∧ closed.Quiet ∧ closed.Room .a ∧ closed.agent.params.ownStation ≠ 0 ∧
      closed.banks.active.header.mgmtPass = .drop) ∧
    (plant.Hears mA ∧ plant.Quiet ∧ plant.Room .a ∧ plant.agent.params.ownStation ≠ 0 ∧
      plant.banks.active.header.mgmtPass = .pass ∧ mA.hop ≠ 0 ∧
      ((plant.delivered mA).queueResponse mA ⟨20, 0x01, .ok, plant.identity⟩).Room mA.side.far) ∧
    (plant.Hears { mA with hop := 0 } ∧ plant.Unreported) := by
  and_intros <;> decide +kernel

/-- The record 3.7 calls 3 with a candidate seen a number of times. -/
def seen (n : Nat) : Record := { asked .none false with candidate := some [78], candidateCount := n }

/-- A repetition one millisecond inside the window of 500 and one at its end, and each sighting under the SETTLE
filters. -/
theorem witness_ChangeFilters :
    ((seen 1).held = some [77] ∧ (seen 1).lastForwarded = some 2046 ∧ ((2545 : CTime) - 2046).toNat < 500 ∧
      ¬((2546 : CTime) - 2046).toNat < 500) ∧
    ((seen 1).held ≠ some [78] ∧ (seen 1).candidate = some [78] ∧ 2 ≤ (seen 1).candidateCount + 1 ∧
      (seen 1).candidateCount + 1 < 3) ∧
    (seen 2).candidate = some [78] ∧ 3 ≤ (seen 2).candidateCount + 1 ∧ (seen 1).held ≠ some [79] ∧
    (seen 1).candidate ≠ some [79] := by decide +kernel

/-- A free record is taken first; of the unbound ones the oldest, of two alike the lower; none of 48 bound ones. -/
theorem witness_AllocationTakesTheOldestUnboundRecord :
    (State.reset.tags.allocate .a (tag 2 2) 100).2 = some 0 ∧
      ((crowded fun n => n ≠ 13 ∧ n ≠ 14 ∧ n ≠ 40).allocate .a (tag 2 2) 100).2 = some 13 ∧
      ((crowded fun _ => true).allocate .a (tag 2 2) 100).2 = none := by decide +kernel

theorem witness_RecordsExpireAndAreFlushed :
    (let s := holding (asked .fresh false) (at_ 2346);
      s.phase = .running ∧ s.Quiet ∧ s.tags.records[3] = some (asked .fresh false) ∧
        reached s.now (asked .fresh false).freshUntil = true) ∧
    (let s := outstanding (at_ 2040);
      s.phase = .running ∧ s.BindingsOk ∧ s.proxy.list[0]? = some ⟨tag 5 100, .a, 2040, 3, 1, 3⟩ ∧
        s.tags.records[3] = some (asked .none true) ∧ reached s.now 2040 = true) ∧
    (owned (outstanding (at_ 0))).HearsOwner mA 20 owner := by decide +kernel

/-- A FRESH record, a reply that settles Q1, a reply to nothing; and the answer itself. -/
theorem witness_FreshRecordsAnswerAndRepliesSettle :
    (let s := holding (asked .fresh false) (at_ 2100);
      s.tags.find .a (tag 5 100) = some 3 ∧ s.tags.records[3] = some (asked .fresh false) ∧
        (asked .fresh false).held = some [77] ∧ s.trip.state ≠ .tripped ∧ s.Room .b ∧
        (s.proxyStep .b (tag 5 100) 0 1).2 = .answered ∧
        (s.proxyStep .b (tag 5 100) 0 1).1.queues.frames.b.map (·.frame) = [⟨.data true (tag 5 100), 1, 3, [77]⟩]) ∧
    (let s := outstanding (at_ 2030);
      s.proxy.find .a (tag 5 100) = some ⟨tag 5 100, .a, 2040, 3, 1, 3⟩ ∧
        s.tags.records[3] = some (asked .none true) ∧ ∀ q ∈ s.proxy.list, q.key ≠ (.b, tag 5 100)) := by
  decide +kernel

/-- A QUERY of 5:100 from side B, as the proxy's receptions ask. -/
abbrev Proxied (s : State) (f : Frame) : Prop :=
  s.Receives .b ∧ s.Quiet ∧ f.body = .query false (tag 5 100) ∧ f.payload = [] ∧ s.trip.state ≠ .tripped ∧
    s.banks.active.winner .b true (tag 5 100) = some 6 ∧ (s.banks.active.entries[(6 : Fin 64)]).action = .proxy

/-- The QUERY whose reception is answered from record 3, with room toward side B and with that side SILENT. -/
theorem witness_FreshRecordsAnswerAndRepliesSettle_reception :
    let s := proxying (some 3) (holding (asked .fresh false) (at_ 2100));
    (Proxied s ⟨.query false (tag 5 100), 1, 0, []⟩ ∧ s.tags.find .a (tag 5 100) = some 3 ∧
      s.tags.records[3] = some (asked .fresh false) ∧ s.Room .b) ∧
    Proxied (ported .b .silent 200 none s) ⟨.query false (tag 5 100), 1, 7, []⟩ := by
  and_intros <;> decide +kernel

/-- No record of a key is FRESH. -/
abbrev Unfresh (s : State) (side : Side) (t : Tag) : Prop :=
  ∀ i ∈ s.tags.find side.far t, ∀ r ∈ s.tags.records[i], r.freshness ≠ .fresh

/-- A key in the list; a full list; no record to be had; hop 0 asks nothing more; one free place and a free record, or a
record found. -/
theorem witness_QueriesCoalesceOrAreTracked :
    (Unfresh (outstanding (at_ 2025)) .b (tag 5 100) ∧
      ∃ q ∈ (outstanding (at_ 2025)).proxy.list, q.key = (.a, tag 5 100)) ∧
    (Unfresh (asking 16 (at_ 2025)) .b (tag 5 100) ∧
      (∀ q ∈ (asking 16 (at_ 2025)).proxy.list, q.key ≠ (.a, tag 5 100)) ∧
      16 ≤ (asking 16 (at_ 2025)).proxy.list.length) ∧
    (let s := { asking 15 (at_ 2025) with tags := crowded fun _ => true };
      s.tags.find .a (tag 5 100) = none ∧ s.proxy.list.length < 16 ∧
        (s.tags.allocate .a (tag 5 100) s.now).2 = none) ∧
    (Unfresh (asking 15 (at_ 2025)) .b (tag 5 100) ∧
      (∀ q ∈ (asking 15 (at_ 2025)).proxy.list, q.key ≠ (.a, tag 5 100)) ∧
      (asking 15 (at_ 2025)).proxy.list.length < 16 ∧ (asking 15 (at_ 2025)).tags.find .a (tag 5 100) = none ∧
      ((asking 15 (at_ 2025)).tags.allocate .a (tag 5 100) 2025).2 = some 0) ∧
    Unfresh (holding (asked .stale false) (at_ 2400)) .b (tag 5 100) ∧
    (holding (asked .stale false) (at_ 2400)).tags.find .a (tag 5 100) = some 3 := by
  and_intros <;> decide +kernel

/-- The result of the proxy step on a QUERY of 5:100 from side B. -/
def resultOf (s : State) (hop : Hop) : ProxyResult := (s.proxyStep .b (tag 5 100) hop 1).2

/-- The receptions of a coalesced QUERY, of untracked ones with hop 0 and with more, and of a tracked one that is queued
or refused. -/
theorem witness_QueriesCoalesceOrAreTracked_reception :
    let f (hop : Hop) : Frame := ⟨.query false (tag 5 100), 1, hop, []⟩;
    let s := proxying none (asking 15 (at_ 2025));
    (Proxied (proxying none (outstanding (at_ 2025))) (f 0) ∧
      resultOf (proxying none (outstanding (at_ 2025))) 0 = .coalesced) ∧
    (Proxied s (f 0) ∧ resultOf s 0 = .untracked ∧ s.Unreported) ∧
    (let u := proxying none (asking 16 (at_ 2025));
      Proxied u (f 1) ∧ resultOf u 1 = .untracked ∧ u.Unreported ∧ u.Room .a) ∧
    (Proxied s (f 1) ∧ resultOf s 1 = .tracked ∧ s.Room .a) ∧
    (let u := ported .a .silent 200 none s;
      Proxied u (f 1) ∧ resultOf u 1 = .tracked ∧ (u.ports.get .a).state.accepts = false ∧
        (u.tags.allocate .a (tag 5 100) u.now).2 = some 0) := by
  and_intros <;> decide +kernel

/-- No room toward side A: its ceiling or the pool is reached. -/
abbrev Crowded (s : State) : Prop :=
  ¬((s.queues.frames.get .a).length < s.agent.params.ceiling.get .a ∧
    s.queues.frames.a.length + s.queues.frames.b.length < 48)

theorem witness_AdmissionDecides :
    (offA.ports.get .a).state.accepts = false ∧
      (((guarded .tripped 3 none State.reset).ports.get .a).state.accepts = true ∧
        (guarded .tripped 3 none State.reset).trip.state = .tripped ∧
        (⟨.data true (tag 1 1), 0, 1, []⟩ : Frame).traffic = true) ∧
      (¬Crowded (queued .a (many 31) State.reset) ∧ ¬Crowded (queued .a (many 31) (queued .b (many 16) State.reset))) ∧
      (Crowded (queued .a (many 31) (queued .b (many 17) State.reset)) ∧
        48 ≤ (queued .a (many 31) (queued .b (many 17) State.reset)).queues.frames.a.length + 17) ∧
      (Crowded (queued .a (many 32) State.reset) ∧ ∀ y ∈ many 32, y.frame.cls < 1 → y.onLine = true) ∧
      Crowded (queued .a (many 16 ++ waiting (tag 2 2) 1 :: many 15) State.reset) ∧ (1 : FClass) < 2 ∧
      Crowded (queued .a (many 31 ++ [waiting (tag 2 2) 0]) State.reset) := by decide +kernel

/-- The displacement clause: the last frame of class 0 behind 31 of class 1 gives way to a frame of class 2. -/
theorem witness_AdmissionDecides_displacing :
    let q := many 31 ++ waiting (tag 2 2) 0 :: [];
    Crowded (queued .a q State.reset) ∧ (waiting (tag 2 2) 0).onLine = false ∧
      (waiting (tag 2 2) 0).frame.cls < (2 : FClass) ∧
      (∀ z ∈ q, z.onLine = false → (waiting (tag 2 2) 0).frame.cls ≤ z.frame.cls) ∧
      ∀ z ∈ ([] : List QFrame), z.onLine = false → z.frame.cls ≠ (waiting (tag 2 2) 0).frame.cls := by decide +kernel

theorem witness_AdmittedFramesStandByClass :
    Ordered [waiting (tag 1 1) 3, waiting (tag 1 2) 1, waiting (tag 1 3) 1, waiting (tag 1 4) 0] := by decide +kernel

theorem witness_StaleAndCancelledFramesLeave :
    (let s := queued .a [onAir, waiting (tag 12 341) 1] (at_ 4100);
      s.phase = .running ∧ (s.queues.frames.get .a)[1]? = some (waiting (tag 12 341) 1) ∧
        due s.now (waiting (tag 12 341) 1).ageDeadline = true ∧ s.Unreported ∧
        (s.queues.frames.get .a)[0]? = some onAir ∧ due s.now onAir.ageDeadline = true) ∧
    (let s := queued .a [onAir, waiting (tag 12 341) 1] (owned (at_ 4050));
      s.HearsOwner mA 20 owner ∧ s.Quiet ∧ s.Room mA.side ∧ argTag 0x03 0x01 0x55 = some (tag 12 341)) := by
  decide +kernel

theorem witness_SelectionPutsTheFirstFrameOnTheLine :
    let s := queued .a [waiting (tag 12 341) 2, waiting (tag 1 1) 1] (at_ 4002);
    s.phase = .running ∧ s.Quiet ∧ (s.ports.get .a).state.accepts = true ∧
      s.queues.frames.get .a = waiting (tag 12 341) 2 :: [waiting (tag 1 1) 1] ∧
      ∀ y ∈ s.queues.frames.get .a, y.onLine = false := by decide +kernel

/-- An attempt of a frame with a mark on a WARNED side of score 65, behind a frame of higher class. -/
def marking (m : Mark) : State :=
  ported .a .warned 65 none (queued .a [waiting (tag 1 1) 2, { onAir with mark := m }, waiting (tag 1 1) 1] (at_ 4140))

theorem witness_SentAndLostAttempts :
    ∀ m ∈ [Mark.none, .stale, .cancelled, .isolated],
      (marking m).phase = .running ∧ (marking m).Unreported ∧ ((marking m).ports.get .a).attempt.isSome = true ∧
        ((marking m).ports.get .a).state.accepts = true ∧
        ((marking m).ports.get .a).state = .warned ∧ ((marking m).ports.get .a).score = 65 ∧
        SideState.warned.fits 65 ∧
        (marking m).queues.frames.get .a =
          [waiting (tag 1 1) 2] ++ { onAir with mark := m } :: [waiting (tag 1 1) 1] ∧
        ∀ y ∈ [waiting (tag 1 1) 2], y.onLine = false := by decide +kernel

/-- An attempt of a frame with a mark and a number of failed ones behind it, at a side state and score; a frame of
higher class stands before it. -/
def failing (state : SideState) (score attempts : Nat) (mark : Mark) : State :=
  ported .a state score none
    (queued .a [waiting (tag 1 1) 2, { onAir with attempts := attempts, mark := mark }] (at_ 4022))

/-- What `Obligations.FailedAttempts` and `Obligations.FailingSidesFallSilent` ask of the state in common. -/
abbrev Fails (attempts : Nat) (mark : Mark) (s : State) : Prop :=
  s.phase = .running ∧ s.Unreported ∧ (s.ports.get .a).attempt = some ⟨onAir.frame.bytes, 4022⟩ ∧
    reached s.now 4022 = true ∧ (s.ports.get .a).state.accepts = true ∧
    s.queues.frames.get .a =
      [waiting (tag 1 1) 2] ++ { onAir with attempts := attempts, mark := mark } :: [] ∧
    (∀ y ∈ [waiting (tag 1 1) 2], y.onLine = false) ∧ s.agent.params.retryLimit = 3

/-- Scores 87 and 88 lie below and at the threshold of 96, attempts 2 and 3 within and beyond RETRY_LIMIT 3, and a frame
bears each mark. -/
theorem witness_FailedAttempts :
    (∀ x ∈ [(SideState.active, 87, 2), (.active, 88, 3), (.warned, 183, 2)],
      let s := failing x.1 x.2.1 x.2.2 .none;
      Fails x.2.2 .none s ∧ ((s.ports.get .a).state = .active ∧ (s.ports.get .a).score < 96 ∨
        (s.ports.get .a).state = .warned ∧ 64 < (s.ports.get .a).score) ∧ (s.ports.get .a).score + 8 < 192) ∧
    ∀ m ∈ [Mark.stale, .cancelled, .isolated],
      Fails 0 m (failing .active 88 0 m) ∧ SideState.active.fits 88 := by
  and_intros <;> decide +kernel

/-- The score reaches 192 with a frame that would be tried again, one that is past RETRY_LIMIT, and one of each mark. -/
theorem witness_FailingSidesFallSilent :
    ∀ x ∈ [(2, Mark.none), (3, .none), (0, .stale), (0, .cancelled), (3, .isolated)],
      Fails x.1 x.2 (failing .warned 184 x.1 x.2) ∧
        192 ≤ ((failing .warned 184 x.1 x.2).ports.get .a).score + 8 := by decide +kernel

theorem witness_SilentSidesRecover :
    (let s := ported .b .silent 255 (some 7010) (at_ 7010);
      s.phase = .running ∧ (s.ports.get .b).state = .silent ∧ (s.ports.get .b).recovery = some 7010 ∧
        reached s.now 7010 = true) ∧
    (ported .b .silent 192 none (owned (at_ 7000))).HearsOwner mA 20 owner ∧
    ((ported .b .silent 192 none (owned (at_ 7000))).ports.get .b).state = .silent := by decide +kernel

/-- The premises of the frame clauses (no report made or sent, room toward the asker) hold beside the owner's, for a
command about the far side too. -/
theorem witness_frame_premises :
    (owned (at_ 4000)).HearsOwner mA 20 owner ∧ (owned (at_ 4000)).Unreported ∧ (owned (at_ 4000)).Quiet ∧
      (owned (at_ 4000)).Room mA.side ∧ Side.b ≠ mA.side ∧ ((owned (at_ 4000)).ports.get .b).state ≠ .off ∧
      (owned plant).HearsOwner mA 20 owner ∧ (owned plant).Quiet ∧ (owned plant).Room mA.side := by decide +kernel

/-- Side B, of score 40, OFF. -/
def offB : State := ported .b .off 40 none (owned (at_ 4000))

theorem witness_SideControlOffAndOn :
    (let s := queued .a [onAir] (owned (at_ 4000));
      s.HearsOwner mA 20 owner ∧ (s.ports.get .a).state ≠ .off ∧ s.Quiet ∧ s.Room mA.side) ∧
    offB.HearsOwner mA 20 owner ∧ (offB.ports.get .b).state = .off ∧ offB.Unreported ∧ offB.Room mA.side := by
  decide +kernel

/-- Entry 4 of T2 in the bytes of event 1 of 6.6, less its index. -/
def entryFour : Payload := [0xC8, 0x01, 1, 0xC3, 0x84, 0, 0, 0, 0, 0, 0, 0]

/-- Masks and settings in bytes. -/
def headerBytes : Payload := [0x0F, 0xC0, 0, 0, 0, 0, 0, 0, 0, 0, 0, 7, 1, 0, 1]

theorem witness_ShadowEdits :
    ((owned plant).HearsOwner mA 20 owner ∧ (owned plant).banks.shadowState = .clean ∧
      (Entry.ofBytes entryFour).isSome = true ∧ (BankHeader.ofBytes headerBytes).isSome = true) ∧
    ((owned plant).withShadowState .incomplete).HearsOwner mA 20 owner ∧
    ((owned plant).withShadowState .incomplete).banks.shadowState.isLoading = false := by decide +kernel

/-- The T2 shadow bank of 6.6 passes with window 500, and entry 4 alone fails with window 0. -/
theorem witness_CommitSwapsOrRefuses :
    ((editTwo 500 (owned plant)).HearsOwner mA 23 owner ∧ (editTwo 500 (owned plant)).banks.shadowState = .clean ∧
      ∀ i : Fin 64, (((editTwo 500 (owned plant)).banks.shadow.entries[i]).inUse = true →
        ((editTwo 500 (owned plant)).banks.shadow.entries[i]).fault TripConfig.factory = none)) ∧
    ((editTwo 0 (owned plant)).HearsOwner mA 21 owner ∧ (editTwo 0 (owned plant)).banks.shadowState = .clean ∧
      (editTwo 0 (owned plant)).trip.config = TripConfig.factory ∧
      ((editTwo 0 (owned plant)).banks.shadow.entries[(4 : Fin 64)]).inUse = true ∧
      ((editTwo 0 (owned plant)).banks.shadow.entries[(4 : Fin 64)]).fault TripConfig.factory = some .zeroWindow ∧
      ∀ j < (4 : Fin 64), ((editTwo 0 (owned plant)).banks.shadow.entries[j]).inUse = true →
        ((editTwo 0 (owned plant)).banks.shadow.entries[j]).fault TripConfig.factory = none) := by
  and_intros <;> decide +kernel

/-- Counts 1 and 65; the last part of 65, a header, an entry; an earlier part, the part at the declared count, a
malformed item as the expected part; and the end of event 11 of 9.7. -/
theorem witness_TransfersRunToTheirEnd :
    ((owned plant).HearsOwner mA 20 owner ∧ (owned plant).banks.shadowState.isLoading = false ∧
      1 ≤ (1 : Byte).toNat ∧ (65 : Byte).toNat ≤ 65) ∧
    (let s := loading 65 64 9 9000 (owned (at_ 8000));
      s.HearsOwner mA 20 owner ∧ s.banks.shadowState = .loading ⟨65, 64, 9, 9000⟩ ∧ headerBytes.length < 19 ∧
        (Item.ofBytes (1 :: headerBytes)).isSome = true ∧ (63 :: entryFour).length < 19 ∧
        (Item.ofBytes (2 :: 63 :: entryFour)).isSome = true ∧ (63 : Byte).toNat < 64 ∧ 65 ≤ (65 : Byte).toNat ∧
        (64 : Byte).toNat = 64 ∧ Item.ofBytes [3] = none) ∧
    (loading 3 3 3146 9000 (owned (at_ 8000))).HearsOwner mA 20 owner := by
  and_intros <;> decide +kernel

/-- Part 2 of 3 with part 1 expected; one part missing; all applied and the sum one off; the idle deadline itself. -/
theorem witness_TransfersAreAborted :
    ((loading 3 1 1544 10020 (owned (at_ 8000))).HearsOwner mA 20 owner ∧
      (loading 3 1 1544 10020 (owned (at_ 8000))).banks.shadowState = .loading ⟨3, 1, 1544, 10020⟩ ∧
      1 < (2 : Byte).toNat ∧ (2 : Byte).toNat < 3) ∧
    (loading 3 2 1544 10020 (owned (at_ 8000))).HearsOwner mA 20 owner ∧
    ((loading 3 3 3146 10020 (owned (at_ 8000))).HearsOwner mA 20 owner ∧ (0x0C : Byte) ++ (0x4B : Byte) ≠ 3146#16) ∧
    ((loading 3 1 1544 10020 (at_ 10020)).phase = .running ∧ reached (at_ 10020).now 10020 = true) := by decide +kernel

/-- A required set of source 1 alone. -/
def alone (s : State) : State :=
  { s with trip := { s.trip with config := { tripThree with required := 2 } } }

/-- Source 1 completes the set of 0 and 1, begun by source 0, and a set of its own from WATCHING; from WATCHING it
begins the set of 0 and 1; asserted already it adds nothing, as source 2, not required, never does; a window ends. -/
theorem witness_CollectionsCompleteOrLapse :
    (let s := guarded .collecting 1 (some 5100) (at_ 5050);
      s.trip.state = .collecting ∧ s.trip.config.required.getLsbD 1 = true ∧ s.trip.asserted.getLsbD 1 = false ∧
        s.trip.asserted ||| (1#4 <<< 1) = s.trip.config.required ∧ s.BindingsOk ∧ s.Unreported ∧
        s.trip.asserted.getLsbD 0 = true ∧ s.trip.config.required.getLsbD 2 = false) ∧
    (let s := alone (guarded .watching 0 none (at_ 5000));
      s.trip.state = .watching ∧ s.trip.config.required.getLsbD 1 = true ∧
        0#4 ||| (1#4 <<< 1) = s.trip.config.required) ∧
    (let s := guarded .watching 0 none (at_ 5000);
      s.trip.state = .watching ∧ s.trip.config.required.getLsbD 1 = true ∧
        0#4 ||| (1#4 <<< 1) ≠ s.trip.config.required) ∧
    (let s := guarded .collecting 1 (some 5100) (at_ 5100);
      s.phase = .running ∧ s.trip.state = .collecting ∧ s.trip.deadline = some 5100 ∧ reached s.now 5100 = true) := by
  and_intros <;> decide +kernel

/-- A frame of 0:0 from side A that the entry of source 1 claims: what it is when the trip unit is asked. -/
def offeredTo (s : State) : State :=
  ((s.heard .a).countClassifier .a fun c => { c with dataTaken := bump c.dataTaken }).hit 9

/-- Its reception: byte 2 asserts source 1, which completes the set of 0 and 1, or begins it, under PASS and under DROP;
and a payload too short asserts nothing. -/
theorem witness_CollectionsCompleteOrLapse_reception :
    let on : State := watched 1 .pass (guarded .collecting 1 (some 5100) (at_ 5050));
    let begun (action : Action) : State := watched 1 action (guarded .watching 0 none (at_ 5000));
    (Takes on .a ⟨.data false (tag 0 0), 1, 1, [0, 0, 0x80]⟩ ∧ on.trip.state ≠ .tripped ∧
      on.banks.active.winner .a false (tag 0 0) = some 9 ∧
      (on.banks.active.entries[(9 : Fin 64)]).trip = some 1 ∧ on.Unreported) ∧
    (on.trip.config.asserts 1 [0, 0, 0x80] = true ∧ ((offeredTo on).assertSource 1 .a (tag 0 0)).2 = true ∧
      on.trip.config.asserts 1 [0, 0] = false ∧ on.Room .b) ∧
    (Takes (begun .drop) .a ⟨.data false (tag 0 0), 1, 1, [0, 0, 0x80]⟩ ∧
      (begun .drop).trip.config.asserts 1 [0, 0, 0x80] = true ∧
      ((offeredTo (begun .drop)).assertSource 1 .a (tag 0 0)).2 = false ∧
      ((begun .drop).banks.active.entries[(9 : Fin 64)]).action = .drop) ∧
    (Takes (begun .pass) .a ⟨.data false (tag 0 0), 1, 1, [0, 0, 0x80]⟩ ∧
      ((offeredTo (begun .pass)).assertSource 1 .a (tag 0 0)).2 = false ∧
      ((begun .pass).banks.active.entries[(9 : Fin 64)]).action = .pass ∧
      ((begun .pass).banks.active.entries[(9 : Fin 64)]).filter = .none ∧ (begun .pass).Room .b) := by
  and_intros <;> decide +kernel

/-- The configuration of 7.7 in the bytes of SET_TRIP. -/
def tripBytes : Payload := [0, 1, 0xFF, 2, 0x80, 0x80, 1, 0, 0x0F, 0xFF, 0, 0, 3, 0, 100]

theorem witness_TripCommands :
    ((guarded .collecting 1 (some 5100) (owned (at_ 5050))).HearsOwner mA 20 owner ∧
      TripConfig.ofBytes tripBytes = some tripThree ∧
      (guarded .collecting 1 (some 5100) (at_ 5050)).trip.state ≠ .tripped ∧
      ∀ i : Fin 64, (State.reset.banks.active.entries[i]).inUse = false) ∧
    (guarded .tripped 3 none (owned (at_ 6000))).HearsOwner mA 20 owner ∧
    (guarded .tripped 3 none (owned (at_ 6000))).trip.state = .tripped := by decide +kernel

theorem witness_OpenGivesTheSessionToOneStation :
    ((at_ 5).Hears mA ∧ (1 : Byte) ≠ 0 ∧ (255 : Byte) ≠ 0 ∧ (at_ 5).agent.session = none) ∧
    ((owned (at_ 5)).Hears mA ∧ (owned (at_ 5)).agent.session = some owner ∧ owner.owner = mA.source ∧
      owner.lastSeq ≠ 20) ∧
    ((owned (at_ 5)).Hears mB ∧ owner.owner ≠ mB.source ∧ (owned (at_ 5)).Quiet ∧ (owned (at_ 5)).Room mB.side) := by
  decide +kernel

theorem witness_SessionsEnd :
    (loading 3 1 1544 22000 (owned (at_ 8000))).HearsOwner mA 20 owner ∧
      ((loading 3 1 1544 22000 (owned (at_ 20000))).phase = .running ∧
        (loading 3 1 1544 22000 (owned (at_ 20000))).agent.session = some owner ∧
        reached (at_ 20000).now owner.deadline = true) := by decide +kernel

theorem witness_DuplicatesAreNotExecuted :
    (Instr.restart mA 19 []).wellFormed = true ∧ (Instr.restart mA 19 []).command = some (mA, 19, 0x1C) ∧
      (owned plant).Hears mA ∧ (owned plant).agent.session = some owner ∧ owner.owner = mA.source ∧
      owner.lastSeq = 19 ∧ (owned plant).Quiet ∧ (owned plant).Room mA.side := by decide +kernel

theorem witness_StrangersAreRefused :
    (Instr.restart mB 19 []).wellFormed = true ∧ (Instr.restart mB 19 []).command = some (mB, 19, 0x1C) ∧
      0x1C ∈ ownerCodes ∧ (owned plant).Hears mB ∧ (∀ x ∈ (owned plant).agent.session, x.owner ≠ mB.source) ∧
      plant.Hears mB ∧ ∀ x ∈ plant.agent.session, x.owner ≠ mB.source := by decide +kernel

theorem witness_MessagesThatAreNoCommand :
    (owned plant).Hears mA ∧ (owned plant).Quiet ∧ (owned plant).Room mA.side ∧ (owned plant).NewCommand mA 20 ∧
      (Instr.unknownCommand mA 20 0x1D []).wellFormed = true ∧
      (Instr.unknownCommand mA 20 0 (List.replicate 20 0)).wellFormed = true ∧
      (Instr.badMessage mA false []).wellFormed = true ∧
      (Instr.badMessage mA false (4 :: full.tail)).wellFormed = true ∧
      (Instr.ignoredMessage mA false [1, 0, 0, 0]).wellFormed = true ∧
      (Instr.ignoredMessage mA false [2, 0, 0, 0]).wellFormed = true := by decide +kernel

/-- Broadcasts of a bad header and of an OPEN, under management-pass DROP, and under PASS with hop 3 and with hop 0. -/
theorem witness_MessagesThatAreNoCommand_broadcast :
    ((Instr.badMessage mA true [4, 0, 0, 0]).wellFormed = true ∧
      (Instr.ignoredMessage mA true [0, 1, 2, 0, 5]).wellFormed = true) ∧
    (closed.Hears mA ∧ closed.Quiet ∧ closed.agent.params.ownStation ≠ 0 ∧
      closed.banks.active.header.mgmtPass = .drop) ∧
    (plant.Hears mA ∧ plant.agent.params.ownStation ≠ 0 ∧ plant.banks.active.header.mgmtPass = .pass ∧ mA.hop ≠ 0 ∧
      plant.Room mA.side.far) ∧
    (plant.Hears { mA with hop := 0 } ∧ plant.Unreported ∧
      (Instr.ignoredMessage { mA with hop := 0 } true [0, 1, 2, 0, 5]).wellFormed = true) := by
  and_intros <;> decide +kernel

/-- A new open command of the owner or of a station without the session. -/
abbrev Asks (s : State) (m : Arrival) (seq : Byte) : Prop :=
  s.Hears m ∧ s.Quiet ∧ s.Room m.side ∧ s.NewCommand m seq

/-- The owner and a stranger ask; the last counters of the last set, the last parameter and the last report place. -/
theorem witness_ReadsOfTheUnitsAreAnswered :
    Asks (owned plant) mA 20 ∧ Asks (owned plant) mB 19 ∧
      (((owned plant).delivered mA).counterSet 12).isSome = true ∧
      (∀ cs ∈ ((owned plant).delivered mA).counterSet 12, (6 : Byte).toNat < cs.length) ∧
      (ParamId.ofCode 0).isSome = true ∧ (ParamId.ofCode 19).isSome = true ∧ (7 : Byte).toNat ≤ 7 := by decide +kernel

/-- A record of (A, 5:100) with 24 bytes held. -/
def long (s : State) : State :=
  holding { asked .fresh false with held := some ((List.range 24).map (BitVec.ofNat 8)), candidateCount := 1,
                                    candidate := some [1, 2] } s

/-- A held record by its number and its key, a free one, a missed key, and one without a candidate or a held value. -/
theorem witness_ReadsOfTheTablesAreAnswered :
    let s := long (at_ 2100);
    let u := holding (asked .none false) (at_ 2100);
    (Asks s mA 20 ∧ s.tags.KeysOk ∧ s.tags.records[3].isSome = true ∧ argTag 0x01 0x40 0x64 = some (tag 5 100)) ∧
    (s.tags.records[47] = none ∧ ∀ i : Fin 48, ∀ r ∈ s.tags.records[i], r.key ≠ (.b, tag 5 100)) ∧
    (u.tags.KeysOk ∧ Asks u mA 20 ∧ (asked .none false).candidate = none) ∧
    (Record.allocated .a (tag 5 100) 0).held = none ∧ (4 : Byte).toNat ≤ 4 ∧ (15 : Byte).toNat ≤ 15 := by
  and_intros <;> decide +kernel

/-- Pages 1 to 4: the value's length with its first 16 bytes and with the rest; the candidate's (R49, Table 12-10). -/
theorem test_read_record_values :
    State.sent .a (after (.readRecord mA 5 [1, 0, 3]) (long (at_ 2100))) =
        [[0x01, 5, 0x0F, 0, 3, 0b00111101, 24, 0, 1, 2, 3, 4, 5, 6, 7, 8, 9, 10, 11, 12, 13, 14, 15]] ∧
      State.sent .a (after (.readRecord mA 5 [2, 0, 3]) (long (at_ 2100))) =
        [[0x01, 5, 0x0F, 0, 3, 0b00111101, 24, 16, 17, 18, 19, 20, 21, 22, 23]] ∧
      State.sent .a (after (.readRecord mA 5 [3, 0, 3]) (long (at_ 2100))) =
        [[0x01, 5, 0x0F, 0, 3, 0b00111101, 2, 1, 2]] ∧
      State.sent .a (after (.readRecord mA 5 [4, 0, 3]) (long (at_ 2100))) =
        [[0x01, 5, 0x0F, 0, 3, 0b00111101, 2]] := by decide +kernel

theorem witness_StatesRefuseOwnerCommands_tables :
    ((loading 3 1 1544 22000 (owned (at_ 8000))).HearsOwner mA 20 owner ∧
      (loading 3 1 1544 22000 (owned (at_ 8000))).banks.shadowState = .loading ⟨3, 1, 1544, 22000⟩ ∧
      (loading 3 1 1544 22000 (owned (at_ 8000))).banks.shadowState.isLoading = true) ∧
    (((owned plant).withShadowState .incomplete).HearsOwner mA 20 owner ∧
      ((owned plant).withShadowState .incomplete).banks.shadowState = .incomplete ∧
      ((owned plant).withShadowState .incomplete).banks.shadowState.isLoading = false) ∧
    (((owned plant).ports.get .b).state ≠ .off ∧ ((owned plant).ports.get .b).state ≠ .silent) ∧
    ((ported .b .off 40 none (owned (at_ 8000))).HearsOwner mA 20 owner ∧
      ((ported .b .off 40 none (owned (at_ 8000))).ports.get .b).state = .off) := by decide +kernel

/-- A ceiling of 8 under 9 queued frames, the owner's station, SET_TRIP while TRIPPED and without a source in use,
RELEASE_TRIP outside TRIPPED, and a write in progress. -/
theorem witness_StatesRefuseOwnerCommands_rest :
    ((queued .b (many 9) (owned (at_ 8000))).HearsOwner mA 20 owner ∧ ParamId.ofCode 6 = some (.ceiling .b) ∧
      (ParamId.ceiling .b).range.1 ≤ (8 : BitVec 16).toNat ∧
      (8 : BitVec 16).toNat < ((queued .b (many 9) (owned (at_ 8000))).queues.frames.get .b).length) ∧
    (ParamId.ofCode 0 = some .ownStation ∧ owner.owner.toNat = (33 : BitVec 16).toNat) ∧
    ((guarded .tripped 3 none (owned (at_ 6000))).HearsOwner mA 20 owner ∧
      (guarded .tripped 3 none (owned (at_ 6000))).trip.state = .tripped ∧ tripBytes.length = 15) ∧
    ((watched 3 .pass (owned (at_ 6000))).HearsOwner mA 20 owner ∧
      (watched 3 .pass (owned (at_ 6000))).trip.state ≠ .tripped ∧
      TripConfig.ofBytes tripBytes = some tripThree ∧ tripThree.sources[3] = none ∧
      ((watched 3 .pass (owned (at_ 6000))).banks.active.entries[(9 : Fin 64)]).trip = some 3 ∧
      ∀ j : Fin 64, ((watched 3 .pass (owned (at_ 6000))).banks.active.entries[j]).inUse = true → j = 9) ∧
    ((owned (storing (at_ 20100))).HearsOwner mA 20 owner ∧
      (owned (storing (at_ 20100))).image.store = some ⟨.zero, image 9, 20000⟩) := by
  and_intros <;> decide +kernel

/-- The row is a command of this code that Table 12-3 gives arguments of the length it has, and fits the bus. -/
abbrev Spelt (i : Instr) (code : Byte) : Prop :=
  i.wellFormed = true ∧ i.command = some (mA, 20, code) ∧ i.args.length ∈ argLengths code

/-- The common premises, a wrong length, LOAD_PART without an item, and values one beyond the last admitted. -/
theorem witness_WrongArgumentsAreRefused :
    (Asks (owned plant) mA 20 ∧ (owned plant).agent.session = some owner ∧ owner.owner = mA.source) ∧
    ((Instr.commit mA 20 [0]).wellFormed = true ∧ (Instr.commit mA 20 [0]).command = some (mA, 20, 0x0B) ∧
      (Instr.commit mA 20 [0]).args.length ∉ argLengths 0x0B) ∧
    ((Instr.loadPart mA 20 [7]).command = some (mA, 20, 0x0D) ∧ (Instr.loadPart mA 20 [7]).args.length < 2) ∧
    (Spelt (.openSession mA 20 [0]) 0x02 ∧ Spelt (.readStatus mA 20 [4]) 0x04 ∧ Spelt (.clearCounters mA 20 [13]) 0x06 ∧
      Spelt (.readQueries mA 20 [16]) 0x11 ∧ Spelt (.readConfig mA 20 [20]) 0x15 ∧ Spelt (.loadBegin mA 20 [66]) 0x0C ∧
      Spelt (.sideControlOn mA 20 2) 0x13 ∧ (owned plant).banks.shadowState.isLoading = false) ∧
    (Spelt (.readCounters mA 20 [12, 7]) 0x05 ∧ Spelt (.readEntry mA 20 [1, 64]) 0x07 ∧
      Spelt (.readEvents mA 20 [4, 8]) 0x18 ∧ (∀ cs ∈ (owned plant).counterSet 12, cs.length ≤ (7 : Byte).toNat) ∧
      (owned plant).counterSet 13 = none) := by
  and_intros <;> decide +kernel

/-- Entry 64, action 6, mode 5, the reserved bit and filter 5 of an entry; a mask with a bit above its 20; page 5,
record 48, a side 2, a key of three bytes; CANCEL_TAG of sides 3. -/
theorem witness_WrongArgumentsAreRefused_tables :
    ((owned plant).banks.shadowState = .clean ∧ Spelt (.writeEntry mA 20 (64 :: entryFour)) 0x08 ∧
      ((0x06 : Byte).extractLsb' 0 3).toNat = 6 ∧ ((0x14 : Byte).extractLsb' 2 3).toNat = 5 ∧
      (0x80 : Byte).getLsbD 7 = true ∧ ((0x50 : Byte).extractLsb' 4 3).toNat = 5) ∧
    Spelt (.writeMasksDefaults mA 20 (0x10 :: headerBytes.tail)) 0x09 ∧
    (Spelt (.readRecord mA 20 [5, 0, 3]) 0x0F ∧ Spelt (.readRecord mA 20 [0, 0, 48]) 0x0F ∧
      Spelt (.readRecord mA 20 [0, 1, 0]) 0x0F ∧ Spelt (.readRecord mA 20 [0, 1, 2, 1, 0x40, 0x64]) 0x0F) ∧
    Spelt (.cancelTag mA 20 [0, 0, 0, 3]) 0x12 := by
  and_intros <;> decide +kernel

/-- Item 20, and RETRY_LIMIT 8; SET_TRIP with offset 24, a mask of 0, an undefined source required, required bit 4,
windows 0 and 10001; group 4, and bit 5 of GUARD. -/
theorem witness_WrongArgumentsAreRefused_units :
    (Spelt (.setConfig mA 20 [20, 0, 0]) 0x14 ∧ ParamId.ofCode 3 = some .retryLimit ∧
      ParamId.retryLimit.range.2 < ((0 : Byte) ++ (8 : Byte)).toNat) ∧
    ((owned plant).trip.state ≠ .tripped ∧ Spelt (.setTrip mA 20 (24 :: tripBytes.tail)) 0x16 ∧
      23 < (24 : Byte).toNat ∧ (0x08 : Byte).getLsbD 3 = true ∧ (0x10 : Byte).extractLsb' 4 4 ≠ 0 ∧
      ((0 : Byte) ++ (0 : Byte)).toNat < 1 ∧ 10000 < ((0x27 : Byte) ++ (0x11 : Byte)).toNat) ∧
    (Spelt (.clearEvents mA 20 [4, 0, 0]) 0x19 ∧ Spelt (.enableEvents mA 20 [3, 0, 0x20]) 0x1A ∧
      Group.guard.code = 3 ∧ ((0 : Byte) ++ (0x20 : Byte)) &&& ~~~(Events.allFlags.get .guard) ≠ 0) := by
  and_intros <;> decide +kernel

theorem witness_ConfigurationCommands :
    ((owned plant).HearsOwner mA 20 owner ∧ (owned plant).Quiet ∧ (owned plant).Unreported ∧
      (owned plant).Room mA.side) ∧
    (ParamId.ofCode 6 = some (.ceiling .b) ∧ (ParamId.ceiling .b).range.1 ≤ (8 : BitVec 16).toNat ∧
      (8 : BitVec 16).toNat ≤ (ParamId.ceiling .b).range.2 ∧
      (queued .b (many 8) (owned plant)).HearsOwner mA 20 owner ∧
      ((queued .b (many 8) (owned plant)).queues.frames.get .b).length ≤ (8 : BitVec 16).toNat) ∧
    (ParamId.ofCode 0 = some .ownStation ∧ (4094 : BitVec 16).toNat ≤ ParamId.ownStation.range.2 ∧
      owner.owner.toNat ≠ (4094 : BitVec 16).toNat) ∧
    (((0x00 : Byte) ++ (0x1F : Byte)) &&& ~~~(Events.allFlags.get .guard) = 0 ∧
      ((owned plant).delivered mA).counterSet (countByte 12) ≠ none) := by
  and_intros <;> decide +kernel

/-- Under a new AGE_LIMIT 50 of class 1, at 4060, a frame queued at 4000 is too old on the line and off it; a limit of
61 leaves both. -/
theorem witness_ConfigurationCommands_ageLimit :
    let s := queued .b [onAir, waiting (tag 1 1) 1] (owned (at_ 4060));
    s.HearsOwner mA 20 owner ∧ s.Unreported ∧ s.Room mA.side ∧ ParamId.ofCode 8 = some (.ageLimit 1) ∧
      (ParamId.ageLimit 1).range.1 ≤ (50 : BitVec 16).toNat ∧ (61 : BitVec 16).toNat ≤ (ParamId.ageLimit 1).range.2 ∧
      (50 : BitVec 16).toNat ≤ (s.now - onAir.queueTime).toNat ∧
      ¬(61 : BitVec 16).toNat ≤ (s.now - onAir.queueTime).toNat := by
  and_intros <;> decide +kernel

/-- HOP_EXPIRED stands in TRAFFIC, none of whose flags is enabled; REPORT_STATION is 33. -/
def muted (rs : List Report) (s : State) : State :=
  reporting rs { s with events := { s.events with flags := ⟨0, 0, 0x40, 0⟩, enables := ⟨0, 0, 0, 0⟩ } }

/-- ENABLE_EVENTS of HOP_EXPIRED raises TRAFFIC: its report is sent at once, waits behind another, or finds the pool
full of frames that do not give way. -/
theorem witness_ConfigurationCommands_enableEvents :
    let s := muted [] (owned (at_ 4050));
    let u := muted [report 1] (owned (at_ 4050));
    let w := muted [] (queued .b (List.replicate 16 (waiting (tag 1 1) 3))
      (queued .a (List.replicate 32 (waiting (tag 1 1) 3)) (owned (at_ 4050))));
    (s.HearsOwner mA 20 owner ∧ s.events.raised .traffic = false ∧
      { s.events with enables := s.events.enables.set .traffic 0x40 }.raised .traffic = true ∧
      s.agent.params.reportStation ≠ 4095 ∧ s.events.reports = [] ∧ s.Room s.agent.params.reportSide) ∧
    (u.HearsOwner mA 20 owner ∧ u.Quiet ∧ u.events.raised .traffic = false ∧ u.events.reports ≠ [] ∧
      u.events.reports.length < 8 ∧ u.Room mA.side) ∧
    (w.HearsOwner mA 20 owner ∧ w.events.raised .traffic = false ∧ w.events.reports = [] ∧
      (w.ports.get w.agent.params.reportSide).state.accepts = true ∧ ¬w.Room w.agent.params.reportSide ∧
      (∀ y ∈ w.queues.frames.get w.agent.params.reportSide, ¬y.frame.cls < w.agent.params.mgmtClass) ∧
      48 ≤ w.queues.frames.a.length + w.queues.frames.b.length) := by
  and_intros <;> decide +kernel

theorem witness_RestartKeepsTheConfiguration :
    let s := loading 3 1 1544 22000 (queued .b [onAir, waiting (tag 1 1) 1] (owned plant));
    s.HearsOwner mA 20 owner ∧ s.image.store = none ∧ s.banks.shadowState.isLoading = true := by decide +kernel

/-- A second report, not yet sent. -/
def reportTwo : Report := ⟨8, .traffic, 2, 0x0040, 110, false, 0, none, false⟩

/-- HOP_EXPIRED raises TRAFFIC from nothing and cannot raise it again, and TABLE's flags disabled raise nothing; eight
reports are too many where seven are not, the newest of the lowest level not outstanding being the last or, behind a
report of level 4 and before one of level 5, another. -/
theorem witness_RaisedGroupsMakeOneReport :
    let ev := (reporting [report 1] (at_ 0)).events;
    let full := List.replicate 6 reportTwo;
    (ev.raised .traffic = false ∧ (ev.mark .hopExpired).raised .traffic = true ∧
      (reporting [report 1] (at_ 0)).agent.params.reportStation ≠ 4095 ∧ ev.reports.length < 8) ∧
    ((ev.mark .hopExpired).raised Flag.hopExpired.group = true) ∧
    (({ ev with enables := ⟨0, 0, 0, 0⟩ } : Events).raised .table = false ∧
      (({ ev with enables := ⟨0, 0, 0, 0⟩ } : Events).mark .commitDone).raised .table = false ∧
      State.reset.agent.params.reportStation = 4095) ∧
    ((report 1 :: full ++ reportTwo :: []).length = 8 ∧ (report 1 :: full ++ [report 1]).length = 8 ∧
      reportTwo.outstanding = false ∧
      ∀ z ∈ report 1 :: full, z.outstanding = false → reportTwo.level ≤ z.level) := by
  and_intros <;> decide +kernel

/-- A bad frame raises PORT where no report waits, and where one does. -/
theorem witness_RaisedGroupsMakeOneReport_reception :
    ∀ rs ∈ [[], [report 1]],
      let s := reporting rs (at_ 200);
      s.Receives .b ∧ s.Quiet ∧ readFrame [] = none ∧ s.events.raised .port = false ∧
        (s.events.enables.port &&& (Flag.badFrame .b).bit) ≠ 0 ∧ s.agent.params.reportStation ≠ 4095 ∧
        s.events.reports.length < 8 ∧ s.Room s.agent.params.reportSide := by decide +kernel

/-- A report of group PORT and level 5, made while another is outstanding. -/
def higher : Report := ⟨9, .port, 5, 0x0001, 120, false, 0, none, false⟩

/-- An ACK to an empty list, to the one report, to one behind a report of higher level, and from a stranger. -/
theorem witness_ReportsAreSettled :
    (let s := reporting [] (at_ 200); s.Hears mA ∧ s.Quiet ∧ s.events.reports = []) ∧
    (let s := reporting [report 1] (at_ 200);
      s.Hears mA ∧ s.events.reports = [] ++ report 1 :: [] ∧ (report 1).outstanding = true ∧
        mA.source = s.agent.params.reportStation ∧ (report 1).seq = 7 ∧ s.Quiet) ∧
    (let s := reporting [higher, report 1, reportTwo] (at_ 200);
      s.Hears mA ∧ s.Hears mB ∧ s.events.reports = [higher] ++ report 1 :: [reportTwo] ∧
        (∀ y ∈ [higher] ++ [reportTwo], y.outstanding = false) ∧ s.Quiet ∧ s.Room s.agent.params.reportSide ∧
        mB.source ≠ s.agent.params.reportStation ∧ (report 1).seq ≠ 8) := by
  and_intros <;> decide +kernel

/-- RETRY_DEADLINE after 1, 3 and 4 sends, alone and between two others, with a station and with 4095. -/
theorem witness_ReportsAreSettled_retry :
    (∀ n ∈ [1, 3, 4],
      let s := reporting [report n] (at_ 350);
      let u := reporting [higher, report n, reportTwo] (at_ 350);
      (s.phase = .running ∧ s.Quiet ∧ s.events.reports = [] ++ report n :: [] ∧ (report n).outstanding = true ∧
        (report n).retry = some 350 ∧ reached s.now 350 = true ∧ s.agent.params.reportStation ≠ 4095 ∧
        s.Room s.agent.params.reportSide ∧ (report n).sends = n) ∧
      u.Quiet ∧ u.events.reports = [higher] ++ report n :: [reportTwo] ∧ u.Room u.agent.params.reportSide) ∧
    (let s := { at_ 350 with events := { State.reset.events with reports := [higher, report 2, reportTwo] } };
      s.Quiet ∧ s.agent.params.reportStation = 4095 ∧ (report 2).sends ≤ 4) := by
  and_intros <;> decide +kernel

/-- STORE of a part that has never stored, and with images 7 and 8; a write of 200 ms. -/
theorem witness_StoresRunToTheirEnd :
    ((owned (at_ 20000)).HearsOwner mA 20 owner ∧ (owned (at_ 20000)).image.store = none ∧
      (owned (at_ 20000)).image.newest = none) ∧
    ((owned (stored (at_ 20000))).HearsOwner mA 20 owner ∧
      (owned (stored (at_ 20000))).image.newest = some (.one, image 8) ∧ SlotId.one.other = .zero ∧
      (image 8).seq + 1 = 9) ∧
    ((storing (at_ 20200)).phase = .running ∧ (storing (at_ 20200)).image.store = some ⟨.zero, image 9, 20000⟩ ∧
      200 ≤ ((at_ 20200).now - 20000).toNat) := by decide +kernel

theorem witness_FramesAndEntriesReadBack :
    (⟨.mgmt true 4094 1, 3, 7, full⟩ : Frame).payload.length ≤ Config.payload ∧
      (Entry.ofBytes entryFour).isSome = true := by decide +kernel

theorem witness_MessagesOnTheWireAreTheirRows :
    (Instr.commit mA 20 []).wellFormed = true ∧
      (Instr.commit mA 20 []).message = some (mA, false, [0x00, 20, 0x0B, 0x00]) ∧
      (Instr.identify mB true 20 []).wellFormed = true ∧
      (Instr.identify mB true 20 []).message = some (mB, true, [0x00, 20, 0x01, 0x00]) ∧
      plant.agent.params.ownStation ≠ stationBroadcast := by decide +kernel

/-- A part with work in every block: a session with an open transfer, a frame on the line and one waiting, an
outstanding query with its bound record, a collection, an outstanding report and a write in progress. -/
def busy : State :=
  loading 3 1 1544 22000
    (queued .a [onAir, waiting (tag 1 1) 1]
      (guarded .collecting 1 (some 5100) (reporting [report 1] (outstanding (owned (storing (at_ 5050)))))))

/-- All invariants hold of `busy`, together with the premise that a step goes on. -/
theorem witness_invariants :
    busy.PoolOk ∧ busy.OrderOk ∧ busy.LineOk ∧ busy.trip.Coherent ∧ busy.RecordsOk ∧ busy.ReportsOk ∧ busy.SessionOk ∧
      busy.SettingsOk ∧ busy.PayloadsOk := by
  refine ⟨by decide +kernel, by decide +kernel, ?_, ?_, by decide +kernel, by decide +kernel, ?_, by decide +kernel,
    by decide +kernel⟩
  · exact ⟨⟨by decide +kernel, by decide +kernel, show 0 < 96 by decide, by decide +kernel⟩, by decide +kernel,
      by decide +kernel, show 0 < 96 by decide, by decide +kernel⟩
  · exact ⟨by decide +kernel, by decide +kernel, by decide +kernel,
      show (1 : BitVec 4) ≠ 0 ∧ (1 : BitVec 4) &&& 3 = 1 ∧ (1 : BitVec 4) ≠ 3 by decide⟩
  · exact ⟨by decide +kernel, show 1 ≤ 3 ∧ 3 ≤ 65 ∧ 1 ≤ 3 by decide, by decide +kernel⟩

theorem witness_invariants_step :
    step (pended (.setTrip mA 20 tripBytes) busy) = .next (after (.setTrip mA 20 tripBytes) busy) ∧
      (after (.setTrip mA 20 tripBytes) busy).trip.config = tripThree := ⟨rfl, by decide +kernel⟩

theorem witness_ResetIsAStartUpThatMeetsTheInvariants :
    State.reset.image.slot0.cells = none ∧ State.reset.image.slot1.cells = none := by decide +kernel

end Sys2Proof.Machine.Tests
end

section
/-! The change filters (spec/02, 2.3) and the allocation of a record (spec/02, 2.2). -/

namespace Sys2Proof.Machine.FilterLaws

/-! ## What each filter makes of a payload -/

variable (r : Record) (w : BitVec 16) (p : Payload) (now : CTime)

/-- REPEAT looks at equality with the held value and at the time since it was last forwarded (R42). -/
theorem repeats_iff :
    r.repeats p w now = true ↔ r.held = some p ∧ ∃ t, r.lastForwarded = some t ∧ (now - t).toNat < w.toNat := by
  have width : (w.setWidth 32).toNat = w.toNat := BitVec.toNat_setWidth_of_le (by decide)
  unfold Record.repeats
  cases r.held <;> cases r.lastForwarded <;> simp [BitVec.lt_def, width]

/-- Accepting the held value again leaves it. -/
theorem accept_held {r : Record} {p : Payload} (h : r.held = some p) :
    r.accept p now = { r with lastForwarded := some now, candidate := none, candidateCount := 0 } := by
  cases r; cases h; rfl

/-- The settling filters by what the payload is equal to (R43, R44). -/
theorem settling_cases (n : Nat) :
    (r.held = some p → r.settling n p now = (r.accept p now, .pass)) ∧
    (r.held ≠ some p → r.candidate = some p → n ≤ r.candidateCount + 1 →
      r.settling n p now = (r.accept p now, .pass)) ∧
    (r.held ≠ some p → r.candidate = some p → r.candidateCount + 1 < n →
      r.settling n p now = ({ r with candidateCount := r.candidateCount + 1 }, .unsettled)) ∧
    (r.held ≠ some p → r.candidate ≠ some p →
      r.settling n p now = ({ r with candidate := some p, candidateCount := 1 }, .unsettled)) := by
  unfold Record.settling
  refine ⟨fun h => if_pos h, fun h c m => ?_, fun h c m => ?_, fun h c => ?_⟩
  · rw [if_neg h, if_pos c, if_pos m]
  · rw [if_neg h, if_pos c, if_neg (Nat.not_le_of_lt m)]
  · rw [if_neg h, if_neg c]

/-- Settles O16: the filter's four forms, each by its own law. -/
theorem changeFilters : Obligations.ChangeFilters := by
  unfold Obligations.ChangeFilters
  refine ⟨fun r w p now => rfl, fun r w p now => ⟨fun h => ?_, fun h => ?_⟩, ?_⟩
  · exact if_pos ((repeats_iff r w p now).2 h)
  · exact if_neg (mt (repeats_iff r w p now).1 h)
  · intro r n filter w p now form
    have eq : r.filtered filter w p now = r.settling n p now := by
      rcases form with ⟨rfl, rfl⟩ | ⟨rfl, rfl⟩ <;> rfl
    rw [eq]
    obtain ⟨held, last, count, new⟩ := settling_cases r p now n
    exact ⟨fun h => accept_held now h ▸ held h, last, count, new⟩

end Sys2Proof.Machine.FilterLaws

namespace Sys2Proof.Machine.AllocationLaws

/-! ## The record that allocation takes -/

/-- The lowest-numbered free record is free, and every one below it is held (R36 step 1). -/
theorem lowestFree_some {t : TagMemory} {i : Fin 48} (h : t.lowestFree = some i) :
    t.records[i] = none ∧ ∀ j < i, (t.records[j]).isSome = true := by
  unfold TagMemory.lowestFree recordNumbers at h
  obtain ⟨free, n, hn, at_n, below⟩ := List.find?_eq_some_iff_getElem.1 h
  rw [List.getElem_finRange] at at_n
  refine ⟨Option.isNone_iff_eq_none.1 free, fun j lt => ?_⟩
  have := below j.val (by rw [← at_n] at lt; exact lt)
  simpa using this

/-- No record is free just when all 48 are held. -/
theorem lowestFree_none {t : TagMemory} : t.lowestFree = none ↔ ∀ j : Fin 48, (t.records[j]).isSome = true := by
  simp [TagMemory.lowestFree, recordNumbers, Option.isSome_iff_ne_none]

/-- One record looked at in the search for the oldest unbound one (R36 step 2). -/
def older (t : TagMemory) (now : CTime) (best : Option (Fin 48 × CTime)) (i : Fin 48) : Option (Fin 48 × CTime) :=
  match t.records[i] with
  | none => best
  | some r =>
    if r.bound then best
    else
      match best with
      | none => some (i, r.age now)
      | some (j, age) => if age < r.age now then some (i, r.age now) else some (j, age)

theorem oldestUnbound_eq (t : TagMemory) (now : CTime) :
    t.oldestUnbound now = (recordNumbers.foldl (older t now) none).map Prod.fst := rfl

/-- What the search has found among the records `seen`: nothing while all are bound, else an unbound one that none of
them is older than, nor as old with a lower number. -/
def BestOf (t : TagMemory) (now : CTime) (seen : List (Fin 48)) : Option (Fin 48 × CTime) → Prop
  | none => ∀ j ∈ seen, ∀ x, t.records[j] = some x → x.bound = true
  | some (i, age) =>
    i ∈ seen ∧ (∃ r, t.records[i] = some r ∧ r.bound = false ∧ r.age now = age) ∧
      ∀ j ∈ seen, ∀ x, t.records[j] = some x → x.bound = false →
        x.age now < age ∨ x.age now = age ∧ i ≤ j

/-- A free or bound record is none to take. -/
theorem BestOf.skip {t : TagMemory} {now : CTime} {seen : List (Fin 48)} {best : Option (Fin 48 × CTime)} {i : Fin 48}
    (h : BestOf t now seen best) (bound : ∀ x, t.records[i] = some x → x.bound = true) :
    BestOf t now (seen ++ [i]) best := by
  cases best with
  | none => exact List.forall_mem_append.2 ⟨h, List.forall_mem_singleton.2 bound⟩
  | some b =>
    obtain ⟨mem, own, top⟩ := h
    refine ⟨List.mem_append_left _ mem, own, List.forall_mem_append.2 ⟨top, List.forall_mem_singleton.2 ?_⟩⟩
    intro x hx free
    rw [bound x hx] at free; cases free

/-- An unbound record older than all before it is the one to take. -/
theorem BestOf.take {t : TagMemory} {now : CTime} {seen : List (Fin 48)} {i : Fin 48} {r : Record}
    (hi : t.records[i] = some r) (hb : r.bound = false)
    (older : ∀ j ∈ seen, ∀ x, t.records[j] = some x → x.bound = false → x.age now < r.age now) :
    BestOf t now (seen ++ [i]) (some (i, r.age now)) := by
  refine ⟨List.mem_append_right _ (List.mem_singleton_self i), ⟨r, hi, hb, rfl⟩,
    List.forall_mem_append.2 ⟨fun j hj x hx free => .inl (older j hj x hx free), List.forall_mem_singleton.2 ?_⟩⟩
  intro x hx _
  rw [hi] at hx; cases hx; exact .inr ⟨rfl, le_rfl⟩

/-- One more record looked at, of a higher number than those seen. -/
theorem BestOf.snoc {t : TagMemory} {now : CTime} {seen : List (Fin 48)} {best : Option (Fin 48 × CTime)} {i : Fin 48}
    (h : BestOf t now seen best) (last : ∀ j ∈ seen, j < i) : BestOf t now (seen ++ [i]) (older t now best i) := by
  unfold older
  split
  · next hi => exact h.skip fun x hx => by rw [hi] at hx; cases hx
  · next r hi =>
    split
    · next hb => exact h.skip fun x hx => by rw [hi] at hx; cases hx; exact hb
    · next hb =>
      have free : r.bound = false := Bool.eq_false_iff.2 hb
      split
      · exact BestOf.take hi free fun j hj x hx unbound => by rw [h j hj x hx] at unbound; cases unbound
      · next k age =>
        obtain ⟨mem, own, top⟩ := h
        split
        · next lt =>
          refine BestOf.take hi free fun j hj x hx unbound => ?_
          exact (top j hj x hx unbound).elim (BitVec.lt_trans · lt) fun ⟨same, _⟩ => same ▸ lt
        · next le =>
          refine ⟨List.mem_append_left _ mem, own, List.forall_mem_append.2 ⟨top, List.forall_mem_singleton.2 ?_⟩⟩
          intro x hx _
          rw [hi] at hx; cases hx
          by_cases same : r.age now = age
          · exact .inr ⟨same, (last k mem).le⟩
          · exact .inl (BitVec.lt_of_le_ne (BitVec.not_lt.1 le) same)

/-- The search keeps its aim along records of rising number. -/
theorem BestOf.foldl {t : TagMemory} {now : CTime} (l : List (Fin 48)) {seen : List (Fin 48)}
    {best : Option (Fin 48 × CTime)} (h : BestOf t now seen best) (rising : (seen ++ l).Pairwise (· < ·)) :
    BestOf t now (seen ++ l) (l.foldl (older t now) best) := by
  induction l generalizing seen best with
  | nil => simpa using h
  | cons i l ih =>
    rw [List.append_cons] at rising ⊢
    refine ih (h.snoc fun j hj => ?_) rising
    exact (List.pairwise_append.1 (List.pairwise_append.1 rising).1).2.2 j hj i (List.mem_singleton_self i)

/-- The whole search (R36 step 2). -/
theorem bestOf_records (t : TagMemory) (now : CTime) :
    BestOf t now recordNumbers (recordNumbers.foldl (older t now) none) :=
  BestOf.foldl recordNumbers (seen := []) (best := none) (by simp [BestOf]) (List.pairwise_lt_finRange 48)

/-- The oldest unbound record is unbound, none is older, and none as old has a lower number. -/
theorem oldestUnbound_some {t : TagMemory} {now : CTime} {i : Fin 48} (h : t.oldestUnbound now = some i) :
    ∃ r, t.records[i] = some r ∧ r.bound = false ∧
      ∀ (j : Fin 48) (x : Record), t.records[j] = some x → x.bound = false →
        x.age now < r.age now ∨ x.age now = r.age now ∧ i ≤ j := by
  have best := bestOf_records t now
  rw [oldestUnbound_eq, Option.map_eq_some_iff] at h
  obtain ⟨⟨k, age⟩, found, rfl⟩ := h
  rw [found] at best
  obtain ⟨-, ⟨r, hr, free, rfl⟩, top⟩ := best
  exact ⟨r, hr, free, fun j => top j (List.mem_finRange j)⟩

/-- No record is to be had only when every held one is bound. -/
theorem oldestUnbound_none {t : TagMemory} {now : CTime} (h : t.oldestUnbound now = none) (j : Fin 48) (x : Record)
    (hx : t.records[j] = some x) : x.bound = true := by
  have best := bestOf_records t now
  rw [oldestUnbound_eq, Option.map_eq_none_iff] at h
  rw [h] at best
  exact best j (List.mem_finRange j) x hx

/-- What an allocation can do: take a free record, replace the oldest unbound one, or refuse (R36 to R38). -/
theorem allocate_cases (t : TagMemory) (origin : Side) (tag : Tag) (now : CTime) :
    (∃ i, t.lowestFree = some i ∧
      t.allocate origin tag now =
        ({ records := t.records.set i (some (Record.allocated origin tag now))
           counters := { t.counters with allocations := bump t.counters.allocations } }, some i)) ∨
    (∃ i, t.lowestFree = none ∧ t.oldestUnbound now = some i ∧
      t.allocate origin tag now =
        ({ records := t.records.set i (some (Record.allocated origin tag now))
           counters :=
            { t.counters with
              allocations := bump t.counters.allocations
              replacements := bump t.counters.replacements } }, some i)) ∨
    (t.lowestFree = none ∧ t.oldestUnbound now = none ∧
      t.allocate origin tag now =
        ({ t with counters := { t.counters with memoryFull := bump t.counters.memoryFull } }, none)) := by
  unfold TagMemory.allocate
  cases free : t.lowestFree with
  | some i => exact .inl ⟨i, rfl, rfl⟩
  | none =>
    cases old : t.oldestUnbound now with
    | some i => exact .inr (.inl ⟨i, rfl, rfl, rfl⟩)
    | none => exact .inr (.inr ⟨rfl, rfl, rfl⟩)

/-- Settles O17, from the three things an allocation can do. -/
theorem allocationTakesTheOldestUnboundRecord : Obligations.AllocationTakesTheOldestUnboundRecord := by
  unfold Obligations.AllocationTakesTheOldestUnboundRecord
  intro t t' origin tag now
  rcases allocate_cases t origin tag now with ⟨k, free, eq⟩ | ⟨k, full, old, eq⟩ | ⟨full, none_old, eq⟩ <;> rw [eq]
  · refine ⟨fun i e => ?_, fun e => nomatch e⟩
    cases e
    obtain ⟨at_k, below⟩ := lowestFree_some free
    exact ⟨rfl, .inl ⟨at_k, below, rfl⟩⟩
  · refine ⟨fun i e => ?_, fun e => nomatch e⟩
    cases e
    obtain ⟨r, hr, unbound, top⟩ := oldestUnbound_some old
    refine ⟨rfl, .inr ⟨lowestFree_none.1 full, rfl, r, hr, unbound, fun j x hx free => ?_⟩⟩
    exact (top j x hx free).imp id fun ⟨same, le⟩ => ⟨congrArg BitVec.toNat same, le⟩
  · refine ⟨fun i e => (nomatch e), fun e => ?_⟩
    cases e
    refine ⟨rfl, fun j => ?_⟩
    obtain ⟨x, hx⟩ := Option.isSome_iff_exists.1 (lowestFree_none.1 full j)
    exact ⟨x, hx, oldestUnbound_none none_old j x hx⟩

end Sys2Proof.Machine.AllocationLaws
end

section
/-! The tag memory and the outstanding list as one block: what a change of one record, with the entries that name it,
keeps of R33, R39 and R52. The operations of spec/02 and spec/03 are told apart here, each by one lemma; every other
operation of the part leaves the block alone. -/

namespace Sys2Proof.Machine.RecordLaws

/-! ## The invariant on the block itself -/

/-- The 48 records. -/
abbrev Records := Vector (Option Record) 48

/-- `State.RecordsOk` of the records and the outstanding list by themselves. -/
structure Sound (v : Records) (l : List QueryEntry) : Prop where
  keys  : ∀ (i j : Fin 48) (r x : Record), v[i] = some r → v[j] = some x → r.key = x.key → i = j
  few   : l.length ≤ Config.outstanding
  apart : (l.map QueryEntry.key).Nodup
  binds : ∀ q ∈ l, ∃ r, v[q.record] = some r ∧ r.bound = true ∧ r.key = q.key
  named : ∀ (i : Fin 48) (r : Record), v[i] = some r → r.bound = true → ∃ q ∈ l, q.record = i
  kept  : ∀ (i : Fin 48) (r : Record), v[i] = some r → r.Kept

/-- Keys that differ in order differ. -/
theorem keysOk_iff {t : TagMemory} :
    t.KeysOk ↔ ∀ (i j : Fin 48) (r x : Record), t.records[i] = some r → t.records[j] = some x → r.key = x.key →
      i = j := by
  constructor
  · intro h i j r x hr hx e
    rcases lt_trichotomy i j with lt | eq | gt
    · exact absurd (by simp [hr, hx, e]) (h i j lt (by simp [hr]))
    · exact eq
    · exact absurd (by simp [hr, hx, e]) (h j i gt (by simp [hx]))
  · intro h i j lt hi e
    obtain ⟨r, hr⟩ := Option.isSome_iff_exists.1 hi
    rw [hr, Option.map_some, eq_comm, Option.map_eq_some_iff] at e
    obtain ⟨x, hx, k⟩ := e
    exact absurd (h i j r x hr hx k.symm) (Fin.ne_of_lt lt)

theorem recordsOk_iff {s : State} : s.RecordsOk ↔ Sound s.tags.records s.proxy.list := by
  constructor
  · rintro ⟨keys, ⟨few, apart, binds, named⟩, kept⟩
    exact ⟨keysOk_iff.1 keys, few, apart, binds, named, kept⟩
  · rintro ⟨keys, few, apart, binds, named, kept⟩
    exact ⟨keysOk_iff.2 keys, ⟨few, apart, binds, named⟩, kept⟩

/-- A record written, read at any number. -/
theorem getElem_set (v : Records) (i j : Fin 48) (x : Option Record) :
    (v.set i x)[j] = if i = j then x else v[j] := by
  simp only [Fin.getElem_fin, Vector.getElem_set, Fin.ext_iff]

/-- One record written, while the entries that name no other record may come and go. -/
theorem Sound.write {v : Records} {l l' : List QueryEntry} {i : Fin 48} {r : Record} (h : Sound v l)
    (few : l'.length ≤ Config.outstanding) (apart : (l'.map QueryEntry.key).Nodup)
    (same : ∀ q : QueryEntry, q.record ≠ i → (q ∈ l' ↔ q ∈ l))
    (binds : ∀ q ∈ l', q.record = i → r.bound = true ∧ r.key = q.key)
    (named : r.bound = true → ∃ q ∈ l', q.record = i)
    (fresh : ∀ (j : Fin 48) (x : Record), v[j] = some x → x.key = r.key → j = i) (kept : r.Kept) :
    Sound (v.set i (some r)) l' where
  few := few
  apart := apart
  keys := by
    intro j k x y hx hy e
    rw [getElem_set] at hx hy
    split at hx <;> split at hy
    · next a b => exact a.symm.trans b
    · next a b => cases hx; exact a.symm.trans (fresh k y hy e.symm).symm
    · next a b => cases hy; exact (fresh j x hx e).trans b
    · next a b => exact h.keys j k x y hx hy e
  binds := by
    intro q hq
    rw [getElem_set]
    by_cases c : i = q.record
    · exact ⟨r, if_pos c, binds q hq c.symm⟩
    · rw [if_neg c]; exact h.binds q ((same q (Ne.symm c)).1 hq)
  named := by
    intro j x hx b
    rw [getElem_set] at hx
    split at hx
    · next c => cases hx; subst c; exact named b
    · next c =>
      obtain ⟨q, hq, e⟩ := h.named j x hx b
      exact ⟨q, (same q (by rw [e]; exact Ne.symm c)).2 hq, e⟩
  kept := by
    intro j x hx
    rw [getElem_set] at hx
    split at hx
    · cases hx; exact kept
    · exact h.kept j x hx

/-- What an entry says of the record it names. -/
theorem Sound.bound_of {v : Records} {l : List QueryEntry} {q : QueryEntry} {i : Fin 48} {r : Record} (h : Sound v l)
    (hq : q ∈ l) (e : q.record = i) (hr : v[i] = some r) : r.bound = true ∧ r.key = q.key := by
  subst e
  obtain ⟨x, hx, bound⟩ := h.binds q hq
  rw [hr] at hx; cases hx; exact bound

/-! ## A record touched, allocated, bound and unbound -/

/-- A record that keeps its key and its binding may change within what a record is (R40 to R47). -/
theorem Sound.touch {v : Records} {l : List QueryEntry} {i : Fin 48} {r r' : Record} (h : Sound v l)
    (hr : v[i] = some r) (key : r'.key = r.key) (bound : r'.bound = r.bound) (kept : r'.Kept) :
    Sound (v.set i (some r')) l :=
  h.write h.few h.apart (fun _ _ => .rfl)
    (fun q hq e => by
      obtain ⟨b, k⟩ := h.bound_of hq e hr
      exact ⟨bound.trans b, key.trans k⟩)
    (fun b => h.named i r hr (bound ▸ b))
    (fun j x hx e => h.keys j i x r hx hr (e.trans key)) kept

/-- A record that no entry names makes room for an unbound one of a new key (R36, R38). -/
theorem Sound.replace {v : Records} {l : List QueryEntry} {i : Fin 48} {r : Record} (h : Sound v l)
    (free : ∀ x, v[i] = some x → x.bound = false) (bound : r.bound = false)
    (fresh : ∀ (j : Fin 48) (x : Record), v[j] = some x → x.key ≠ r.key) (kept : r.Kept) :
    Sound (v.set i (some r)) l :=
  h.write h.few h.apart (fun _ _ => .rfl)
    (fun q hq e => by
      obtain ⟨x, hx, b, -⟩ := h.binds q hq
      subst e; rw [free x hx] at b; cases b)
    (fun b => by rw [bound] at b; cases b)
    (fun j x hx e => absurd e (fresh j x hx)) kept

/-- A new entry of a key that the list lacks binds the record of that key (R58). -/
theorem Sound.track {v : Records} {l : List QueryEntry} {q : QueryEntry} {r : Record} (h : Sound v l)
    (room : l.length < Config.outstanding) (new : ∀ x ∈ l, x.key ≠ q.key) (hr : v[q.record] = some r)
    (key : r.key = q.key) : Sound (v.set q.record (some { r with bound := true })) (l ++ [q]) := by
  refine h.write (by simpa using room) ?_ ?_ ?_ (fun _ => ⟨q, by simp, rfl⟩)
    (fun j x hx e => h.keys j q.record x r hx hr e) (h.kept q.record r hr)
  · rw [List.map_append, List.nodup_append]
    refine ⟨h.apart, by simp, ?_⟩
    simpa [List.mem_map] using new
  · intro x hx
    simp only [List.mem_append, List.mem_singleton, or_iff_left_iff_imp]
    rintro rfl; exact absurd rfl hx
  · intro x hx e
    refine ⟨rfl, ?_⟩
    rcases List.mem_append.1 hx with hx | hx
    · exact (h.bound_of hx e hr).2
    · rw [List.mem_singleton.1 hx]; exact key

/-- Two entries that bind one record are one, and so are two of one key. -/
theorem Sound.entry_ext {v : Records} {l : List QueryEntry} (h : Sound v l) {q x : QueryEntry} (hq : q ∈ l)
    (hx : x ∈ l) (e : x.record = q.record ∨ x.key = q.key) : x = q := by
  refine List.inj_on_of_nodup_map h.apart hx hq ?_
  rcases e with e | e
  · obtain ⟨r, hr, -, k⟩ := h.binds q hq
    exact (h.bound_of hx e hr).2.symm.trans k
  · exact e

/-- An entry removed and its record unbound (R52). -/
theorem Sound.release {v : Records} {l : List QueryEntry} {q : QueryEntry} {r : Record} (h : Sound v l) (hq : q ∈ l)
    (hr : v[q.record] = some r) : Sound (v.set q.record (some { r with bound := false })) (l.erase q) := by
  have nodup : l.Nodup := .of_map _ h.apart
  refine h.write ((List.length_erase_le).trans h.few) (h.apart.sublist (List.erase_sublist.map _)) ?_ ?_ (by simp)
    (fun j x hx e => h.keys j q.record x r hx hr e) (h.kept q.record r hr)
  · intro x hx
    refine List.mem_erase_of_ne ?_
    rintro rfl; exact hx rfl
  · intro x hx e
    have := (nodup.mem_erase_iff.1 hx)
    exact absurd (h.entry_ext hq this.2 (.inl e)) this.1

/-- Where no two entries have one key, removing by key removes the entry itself (R52). -/
theorem eraseP_keyed {l : List QueryEntry} {q : QueryEntry} (apart : (l.map QueryEntry.key).Nodup) (hq : q ∈ l) :
    l.eraseP (·.keyed q.target q.tag) = l.erase q := by
  induction l with
  | nil => rfl
  | cons x l ih =>
    simp only [List.map_cons, List.nodup_cons] at apart
    rcases List.mem_cons.1 hq with rfl | hq
    · simp [QueryEntry.keyed]
    · have ne : x.key ≠ q.key := fun e => apart.1 (e ▸ List.mem_map_of_mem hq)
      have off : ¬x.keyed q.target q.tag = true := by simpa [QueryEntry.keyed, QueryEntry.key] using ne
      rw [List.eraseP_cons_of_neg (p := fun y : QueryEntry => y.keyed q.target q.tag) off,
        List.erase_cons_tail (by rw [beq_iff_eq]; rintro rfl; exact ne rfl), ih apart.2 hq]

/-- Entries may count more queries: their keys and records stay (R57). -/
theorem Sound.recount {v : Records} {l : List QueryEntry} {f : QueryEntry → QueryEntry} (h : Sound v l)
    (key : ∀ q, (f q).key = q.key) (record : ∀ q, (f q).record = q.record) : Sound v (l.map f) where
  keys := h.keys
  few := by simpa using h.few
  apart := by simpa [Function.comp_def, key] using h.apart
  binds := by simpa [key, record] using h.binds
  named := by simpa [record] using h.named
  kept := h.kept

/-- Records that are not bound may be freed (R48). -/
theorem Sound.free {v w : Records} {l : List QueryEntry} (h : Sound v l)
    (rest : ∀ (i : Fin 48) (r : Record), w[i] = some r → v[i] = some r)
    (held : ∀ (i : Fin 48) (r : Record), v[i] = some r → r.bound = true → w[i] = some r) : Sound w l where
  keys i j r x hr hx := h.keys i j r x (rest i r hr) (rest j x hx)
  few := h.few
  apart := h.apart
  binds q hq := by
    obtain ⟨r, hr, b, k⟩ := h.binds q hq
    exact ⟨r, held _ r hr b, b, k⟩
  named i r hr := h.named i r (rest i r hr)
  kept i r hr := h.kept i r (rest i r hr)

/-- A part without records and without outstanding queries (R34, R66, R192). -/
theorem Sound.none : Sound (Vector.replicate 48 none) [] := by
  constructor <;> simp

end Sys2Proof.Machine.RecordLaws
end

section
/-! Every operation of the tag memory and of the query proxy keeps the block sound. -/

namespace Sys2Proof.Machine.RecordLaws

/-! ## What a filter keeps of a record -/

/-- A record as a change of it leaves it: of the same key and binding, and well kept. -/
def Follows (r r' : Record) : Prop := r'.key = r.key ∧ r'.bound = r.bound ∧ (r.Kept → r'.Kept)

theorem accept_follows (r : Record) (p : Payload) (now : CTime) : Follows r (r.accept p now) := by
  refine ⟨rfl, rfl, fun _ => ⟨?_, ?_, ?_⟩⟩ <;> simp [Record.accept]

/-- A candidate is counted up to the sightings that a settling filter waits for (R43, R44). -/
theorem settling_follows (r : Record) {n : Nat} (hn : n ≤ 3) (p : Payload) (now : CTime) :
    Follows r (r.settling n p now).1 := by
  unfold Record.settling
  split
  · exact accept_follows r p now
  · split
    · next cand =>
      split
      · exact accept_follows r p now
      · next more =>
        refine ⟨rfl, rfl, fun ⟨_, _, fresh⟩ => ⟨?_, ?_, fresh⟩⟩
        · simp [cand]
        · exact Nat.le_of_lt_succ (lt_of_lt_of_le (Nat.not_le.1 more) hn)
    · exact ⟨rfl, rfl, fun ⟨_, _, fresh⟩ => ⟨by simp, by simp, fresh⟩⟩

theorem filtered_follows (r : Record) (f : Filter) (w : BitVec 16) (p : Payload) (now : CTime) :
    Follows r (r.filtered f w p now).1 := by
  unfold Record.filtered
  cases f with
  | none => exact accept_follows r p now
  | repeated =>
    dsimp only
    split
    · exact ⟨rfl, rfl, id⟩
    · exact accept_follows r p now
  | settle2 => exact settling_follows r (by decide) p now
  | settle3 => exact settling_follows r (by decide) p now

/-- A payload that passes or repeats stands in the record as its held value (R42, R45). -/
theorem filtered_held (r : Record) (f : Filter) (w : BitVec 16) (p : Payload) (now : CTime)
    (h : (r.filtered f w p now).2 ≠ .unsettled) : (r.filtered f w p now).1.held.isSome = true := by
  have settling : ∀ n, (r.settling n p now).2 ≠ .unsettled → (r.settling n p now).1.held.isSome = true := by
    intro n
    unfold Record.settling
    repeat' split
    all_goals simp [Record.accept]
  cases f with
  | none => rfl
  | repeated =>
    unfold Record.filtered
    dsimp only
    split
    · next c => simp [((FilterLaws.repeats_iff r w p now).1 c).1]
    · rfl
  | settle2 => exact settling 2 h
  | settle3 => exact settling 3 h

/-- The tag memory step changes its record within what a record is (R40, R46, R62). -/
theorem step_follows (r : Record) (e : Entry) (settled : Bool) (p : Payload) (now : CTime) :
    Follows r (r.step e settled p now).1 := by
  obtain ⟨key, bound, kept⟩ := filtered_follows r e.filter e.window p now
  have held := filtered_held r e.filter e.window p now
  unfold Record.step Record.renewed
  dsimp only
  split
  · split
    · exact ⟨key, bound, kept⟩
    · next c =>
      refine ⟨key, bound, fun k => ?_⟩
      obtain ⟨cand, count, -⟩ := kept k
      exact ⟨cand, count, fun _ => held c⟩
  · split
    · exact ⟨rfl, rfl, id⟩
    · exact ⟨key, bound, kept⟩

/-! ## The tag memory -/

variable {t : TagMemory} {l : List QueryEntry} {o : Side} {tag : Tag} {now : CTime}

theorem modify_eq {i : Fin 48} {r : Record} (h : t.records[i] = some r) (f : Record → Record) :
    t.modify i f = { t with records := t.records.set i (some (f r)) } := by
  unfold TagMemory.modify; rw [h]; rfl

/-- A record changed within what a record is. -/
theorem Sound.follow {v : Records} {i : Fin 48} {r r' : Record} (h : Sound v l) (hr : v[i] = some r)
    (f : Follows r r') : Sound (v.set i (some r')) l :=
  h.touch hr f.1 f.2.1 (f.2.2 (h.kept i r hr))

/-- Record `i` is held for a key. -/
def HeldFor (t : TagMemory) (o : Side) (tag : Tag) (i : Fin 48) : Prop := ∃ r, t.records[i] = some r ∧ r.key = (o, tag)

theorem heldFor_set {i : Fin 48} {r : Record} (key : r.key = (o, tag)) :
    HeldFor { t with records := t.records.set i (some r) } o tag i :=
  ⟨r, by rw [getElem_set, if_pos rfl], key⟩

/-- What a lookup can do: find nothing and change nothing, or find the key's record and set its last use (R35). -/
theorem lookup_cases (t : TagMemory) (o : Side) (tag : Tag) (now : CTime) :
    (t.find o tag = none ∧ t.lookup o tag now = (t, none)) ∨
    ∃ i r, t.find o tag = some i ∧ t.records[i] = some r ∧ r.key = (o, tag) ∧
      t.lookup o tag now = ({ t with records := t.records.set i (some { r with lastUse := now }) }, some i) := by
  unfold TagMemory.lookup
  cases h : t.find o tag with
  | none => exact .inl ⟨rfl, rfl⟩
  | some i =>
    obtain ⟨r, hr, ho, ht⟩ := TagMemory.find_some h
    exact .inr ⟨i, r, rfl, hr, by simp [Record.key, ho, ht], by simp only [modify_eq hr]⟩

/-- A lookup keeps the records sound, and what it finds is the key's record. -/
theorem lookup_sound (h : Sound t.records l) :
    Sound (t.lookup o tag now).1.records l ∧
      ∀ i, (t.lookup o tag now).2 = some i → HeldFor (t.lookup o tag now).1 o tag i := by
  rcases lookup_cases t o tag now with ⟨-, eq⟩ | ⟨i, r, -, hr, key, eq⟩ <;> rw [eq]
  · exact ⟨h, fun _ e => nomatch e⟩
  · refine ⟨h.follow hr ⟨rfl, rfl, id⟩, fun j e => ?_⟩
    cases e
    exact heldFor_set key

/-- An allocation for a key that no record has keeps the records sound (R33, R36, R38). -/
theorem allocate_sound (h : Sound t.records l) (new : t.find o tag = none) :
    Sound (t.allocate o tag now).1.records l ∧
      ∀ i, (t.allocate o tag now).2 = some i → HeldFor (t.allocate o tag now).1 o tag i := by
  have fresh : ∀ (j : Fin 48) (x : Record), t.records[j] = some x →
      x.key ≠ (Record.allocated o tag now).key := by
    intro j x hx e
    obtain ⟨ho, ht⟩ := Prod.mk.inj e
    exact TagMemory.find_none.1 new j x hx ⟨ho, ht⟩
  have taken : ∀ i : Fin 48, (∀ x, t.records[i] = some x → x.bound = false) →
      Sound (t.records.set i (some (Record.allocated o tag now))) l ∧
        ∀ j : Fin 48, some i = some j →
          HeldFor { t with records := t.records.set i (some (Record.allocated o tag now)) } o tag j := by
    intro i free
    refine ⟨h.replace free rfl fresh (by simp [Record.Kept, Record.allocated]), fun j e => ?_⟩
    cases e
    exact heldFor_set (t := t) rfl
  rcases AllocationLaws.allocate_cases t o tag now with ⟨i, low, eq⟩ | ⟨i, -, old, eq⟩ | ⟨-, -, eq⟩ <;> rw [eq]
  · refine taken i fun x hx => ?_
    rw [(AllocationLaws.lowestFree_some low).1] at hx; cases hx
  · refine taken i fun x hx => ?_
    obtain ⟨r, hr, free, -⟩ := AllocationLaws.oldestUnbound_some old
    rw [hr] at hx; cases hx; exact free
  · exact ⟨h, fun _ e => nomatch e⟩

/-- The record for a key, found or allocated (R40). -/
theorem recordFor_sound (h : Sound t.records l) :
    Sound (t.recordFor o tag now).1.records l ∧
      ∀ i, (t.recordFor o tag now).2 = some i → HeldFor (t.recordFor o tag now).1 o tag i := by
  have found := lookup_sound (o := o) (tag := tag) (now := now) h
  unfold TagMemory.recordFor
  rcases lookup_cases t o tag now with ⟨new, eq⟩ | ⟨i, r, -, -, -, eq⟩ <;> rw [eq] at found ⊢
  · exact allocate_sound h new
  · exact found

/-- A freshness deadline turns a record STALE and touches no other (R47). -/
theorem expire_sound (h : Sound t.records l) (i : Fin 48) : Sound (t.expire i now).records l := by
  unfold TagMemory.expire
  split
  · next r hr =>
    split
    · next c =>
      refine h.follow hr ⟨rfl, rfl, fun ⟨cand, count, held⟩ => ⟨cand, count, fun _ => held ?_⟩⟩
      rw [c.1]; decide
    · exact h
  · exact h

/-- What FLUSH_RECORDS leaves: the bound records (R48). -/
theorem flush_records (t : TagMemory) (i : Fin 48) (r : Record) :
    t.flush.records[i] = some r ↔ t.records[i] = some r ∧ r.bound = true := by
  have : t.flush.records[i] = if Record.flushable t.records[i] then none else t.records[i] := by
    simp [TagMemory.flush]
  rw [this]
  cases t.records[i] with
  | none => simp [Record.flushable]
  | some x => cases hb : x.bound <;> simp [Record.flushable, hb] <;> rintro rfl <;> simp [hb]

theorem flush_sound (h : Sound t.records l) : Sound t.flush.records l :=
  h.free (fun i r hr => ((flush_records t i r).1 hr).1) fun i r hr b => (flush_records t i r).2 ⟨hr, b⟩

/-! ## The state -/

variable {s : State}

/-- `u` holds the records and the outstanding entries of `s` as they are. -/
def SameRecords (s u : State) : Prop := u.tags.records = s.tags.records ∧ u.proxy.list = s.proxy.list

theorem SameRecords.recordsOk {u : State} (e : SameRecords s u) (h : s.RecordsOk) : u.RecordsOk := by
  rw [recordsOk_iff] at h ⊢; rw [e.1, e.2]; exact h

/-- What touches the queues and the event unit alone leaves the records and the entries. -/
theorem sameRecords_of_grows {u : State} (g : s.Grows u) : SameRecords s u := by
  obtain ⟨q, ev, rfl, -⟩ := g; exact ⟨rfl, rfl⟩

theorem settle_recordsOk (h : s.RecordsOk) : s.settle.RecordsOk := (sameRecords_of_grows s.grows_settle).recordsOk h

theorem admit_recordsOk (h : s.RecordsOk) (side : Side) (f : Frame) : (s.admitFrame side f).1.RecordsOk :=
  (sameRecords_of_grows (s.grows_admit side f)).recordsOk h

/-- The tag memory replaced by a sound one. -/
theorem withTags_recordsOk {t : TagMemory} (h : Sound t.records s.proxy.list) :
    ({ s with tags := t } : State).RecordsOk := recordsOk_iff.2 h

/-- The tag memory step of a DATA frame (R22, R37, R40). -/
theorem tagStep_recordsOk (h : s.RecordsOk) (side : Side) (tag : Tag) (settled : Bool) (p : Payload) (e : Entry) :
    (s.tagStep side tag settled p e).1.RecordsOk := by
  have sound := (recordFor_sound (o := side) (tag := tag) (now := s.now) (recordsOk_iff.1 h)).1
  unfold State.tagStep
  split
  · next t i eq =>
    rw [eq] at sound
    split
    · next r hr => exact withTags_recordsOk (sound.follow hr (step_follows r e settled p s.now))
    · exact withTags_recordsOk sound
  · next t eq =>
    rw [eq] at sound
    exact withTags_recordsOk sound

/-! ## The outstanding list -/

/-- An entry of the list removed and its record unbound (R52). -/
theorem removeQuery_recordsOk (h : s.RecordsOk) {q : QueryEntry} (hq : q ∈ s.proxy.list) :
    (s.removeQuery q).RecordsOk := by
  rw [recordsOk_iff] at h ⊢
  obtain ⟨r, hr, -⟩ := h.binds q hq
  have rel := h.release hq hr
  rw [← eraseP_keyed h.apart hq] at rel
  simpa only [State.removeQuery, TagMemory.bind, modify_eq hr] using rel

/-- A reply settles the entry of its key, if there is one (R61). -/
theorem settleReply_recordsOk (h : s.RecordsOk) (side : Side) (tag : Tag) : (s.settleReply side tag).RecordsOk := by
  unfold State.settleReply
  split
  · next q e => exact removeQuery_recordsOk h (Proxy.find_some e).1
  · exact h

/-- A tracked query refused at admission is withdrawn (R60). -/
theorem withdrawQuery_recordsOk (h : s.RecordsOk) (side : Side) (tag : Tag) :
    (s.withdrawQuery side tag).RecordsOk := by
  unfold State.withdrawQuery
  split
  · next q e => exact removeQuery_recordsOk h (Proxy.find_some e).1
  · exact h

/-- An entry times out (R63). -/
theorem timeoutQuery_recordsOk (h : s.RecordsOk) (place : Nat) : (s.timeoutQuery place).RecordsOk := by
  unfold State.timeoutQuery
  split
  · next q e =>
    split
    · exact removeQuery_recordsOk h (List.mem_of_getElem? e)
    · exact h
  · exact h

/-- One entry of the list that is cleared: its record unbound and the entry counted (R65). -/
def clearEntry (s : State) (q : QueryEntry) : State :=
  { s with tags := s.tags.bind q.record false }.countProxy q.target.far fun c => { c with cleared := bump c.cleared }

theorem clearQueries_eq (s : State) :
    s.clearQueries =
      { s.proxy.list.foldl clearEntry s with proxy := { (s.proxy.list.foldl clearEntry s).proxy with list := [] } } :=
  rfl

/-- The records of the entries still to clear stay bound, each to its own entry, until the last is cleared. -/
theorem foldl_clearEntry_sound (l : List QueryEntry) (h : Sound s.tags.records l) :
    Sound (l.foldl clearEntry s).tags.records [] := by
  induction l generalizing s with
  | nil => exact h
  | cons q l ih =>
    obtain ⟨r, hr, -⟩ := h.binds q List.mem_cons_self
    have rel := h.release List.mem_cons_self hr
    rw [List.erase_cons_head] at rel
    refine ih ?_
    simpa only [clearEntry, State.countProxy_tags, TagMemory.bind, modify_eq hr] using rel

theorem clearQueries_recordsOk (h : s.RecordsOk) : s.clearQueries.RecordsOk := by
  rw [clearQueries_eq, recordsOk_iff]
  exact foldl_clearEntry_sound s.proxy.list (recordsOk_iff.1 h)

/-! ## The proxy step -/

/-- A query of a key in the list is counted there (R57). -/
theorem coalesceQuery_recordsOk (h : s.RecordsOk) (side : Side) (tag : Tag) :
    (s.coalesceQuery side tag).RecordsOk := by
  rw [recordsOk_iff] at h ⊢
  exact h.recount (fun q => by split <;> rfl) fun q => by split <;> rfl

theorem answerQuery_recordsOk (h : s.RecordsOk) (side : Side) (tag : Tag) (p : Payload) (cls : FClass) :
    (s.answerQuery side tag p cls).RecordsOk := by
  have admitted := admit_recordsOk h side (answerFrame s.agent.params tag p cls)
  exact admitted

/-- A query of a key that the list lacks is tracked with the record of its key (R58). -/
theorem trackQuery_recordsOk (h : s.RecordsOk) {side : Side} {tag : Tag} {i : Fin 48} (cls : FClass)
    (room : s.proxy.list.length < Config.outstanding) (new : s.proxy.find side.far tag = none)
    (held : HeldFor s.tags side.far tag i) : (s.trackQuery side tag cls i).RecordsOk := by
  rw [recordsOk_iff] at h ⊢
  obtain ⟨r, hr, key⟩ := held
  have tracked := h.track (q :=
    { tag := tag, target := side.far, deadline := s.now + s.agent.params.queryTimeout.setWidth 32, coalesced := 1,
      cls := cls, record := i }) room
    (fun x hx e => Proxy.find_none.1 new x hx (Prod.mk.inj e)) hr key
  simp only [State.trackQuery, TagMemory.bind, modify_eq hr]
  exact tracked

/-- Rows 2 to 6 of Table 3-2. -/
theorem askAcross_recordsOk (h : s.RecordsOk) (side : Side) (tag : Tag) (hop : Hop) (cls : FClass)
    (found : Option (Fin 48)) (held : ∀ i, found = some i → HeldFor s.tags side.far tag i)
    (none_found : found = none → s.tags.find side.far tag = none) :
    (s.askAcross side tag hop cls found).1.RecordsOk := by
  unfold State.askAcross
  split
  · exact coalesceQuery_recordsOk h side tag
  · next new =>
    have new : s.proxy.find side.far tag = none := by simpa using new
    split
    · exact h
    · split
      · exact h
      · next full =>
        have room := Nat.lt_of_not_le full
        split
        · next i => exact trackQuery_recordsOk h cls room new (held i rfl)
        · have alloc := allocate_sound (now := s.now) (recordsOk_iff.1 h) (none_found rfl)
          split
          · next t i eq =>
            rw [eq] at alloc
            exact trackQuery_recordsOk (s := { s with tags := t }) (withTags_recordsOk alloc.1) cls room new
              (alloc.2 i rfl)
          · next t eq =>
            rw [eq] at alloc
            exact withTags_recordsOk (s := s) alloc.1

/-- The proxy step of a QUERY (R54). -/
theorem proxyStep_recordsOk (h : s.RecordsOk) (side : Side) (tag : Tag) (hop : Hop) (cls : FClass) :
    (s.proxyStep side tag hop cls).1.RecordsOk := by
  have found := lookup_sound (o := side.far) (tag := tag) (now := s.now) (recordsOk_iff.1 h)
  unfold State.proxyStep
  rcases lookup_cases s.tags side.far tag s.now with ⟨new, eq⟩ | ⟨i, r, -, -, -, eq⟩ <;> rw [eq] at found ⊢ <;>
    dsimp only <;> split
  · exact answerQuery_recordsOk (s := { s with tags := _ }) (withTags_recordsOk found.1) _ _ _ _
  · exact askAcross_recordsOk (s := { s with tags := _ }) (withTags_recordsOk found.1) _ _ _ _ _ found.2 fun _ => new
  · exact answerQuery_recordsOk (s := { s with tags := _ }) (withTags_recordsOk found.1) _ _ _ _
  · exact askAcross_recordsOk (s := { s with tags := _ }) (withTags_recordsOk found.1) _ _ _ _ _ found.2
      fun e => nomatch e

end Sys2Proof.Machine.RecordLaws
end

section
/-! Every row of the table keeps the block of records and outstanding queries sound: the classifier and the trip unit
through the operations above, FLUSH_RECORDS and RESTART by their own rules, and everything else by leaving it alone. -/

namespace Sys2Proof.Machine.RecordLaws

/-- An operation that keeps the records and the outstanding list as R33, R39 and R52 say. -/
def Keeps (f : State → State) : Prop := ∀ s : State, s.RecordsOk → (f s).RecordsOk

variable {s : State}

theorem SameRecords.trans {t u : State} (h : SameRecords s t) (k : SameRecords t u) : SameRecords s u :=
  ⟨k.1.trans h.1, k.2.trans h.2⟩

/-- The steady part holds the records and the entries. -/
theorem sameRecords_of_steady {u : State} (e : u.steady = s.steady) : SameRecords s u :=
  ⟨congrArg (fun x => x.tags.records) e, congrArg (fun x => x.proxy.list) e⟩

/-! ## The classifier and the trip unit -/

theorem sameRecords_forward (s : State) (side : Side) (f : Frame) : SameRecords s (s.forward side f).1 := by
  unfold State.forward
  split
  · exact ⟨rfl, rfl⟩
  · exact sameRecords_of_grows (s := s.countClassifier side _) (State.grows_admit _ _ _)

theorem forward_recordsOk (h : s.RecordsOk) (side : Side) (f : Frame) : (s.forward side f).1.RecordsOk :=
  (sameRecords_forward s side f).recordsOk h

theorem defaultAction_recordsOk (h : s.RecordsOk) (side : Side) (f : Frame) :
    (s.defaultAction side f).RecordsOk := by
  unfold State.defaultAction
  dsimp only
  split
  · exact forward_recordsOk (s := s.countClassifier side _) h side f
  · exact h

/-- Entry into TRIPPED clears the outstanding list (R65, R137). -/
theorem enterTripped_recordsOk (h : s.RecordsOk) (k : Fin 4) (side : Side) (tag : Tag) :
    (s.enterTripped k side tag).RecordsOk :=
  clearQueries_recordsOk (SameRecords.recordsOk (s := s) ⟨rfl, rfl⟩ h)

theorem collect_recordsOk (h : s.RecordsOk) (k : Fin 4) (side : Side) (tag : Tag) :
    (s.collect k side tag).1.RecordsOk := by
  unfold State.collect
  dsimp only
  split
  · exact enterTripped_recordsOk h k side tag
  · exact h

theorem offerTrip_recordsOk (h : s.RecordsOk) (k : Fin 4) (side : Side) (tag : Tag) (p : Payload) :
    (s.offerTrip k side tag p).1.RecordsOk := by
  unfold State.offerTrip State.assertSource
  dsimp only
  split
  · split
    · exact h
    · split
      · exact collect_recordsOk (s := (s.countTrip _).beginCollection) h k side tag
      · split
        · exact h
        · exact collect_recordsOk (s := s.countTrip _) h k side tag
      · exact h
      · exact h
  · exact h

theorem dataOnward_recordsOk (h : s.RecordsOk) (side : Side) (tag : Tag) (settled : Bool) (f : Frame) (e : Entry) :
    (s.dataOnward side tag settled f e).RecordsOk := by
  have stepped := tagStep_recordsOk h side tag settled f.payload e
  unfold State.dataOnward
  split
  · split
    · next eq => rw [eq] at stepped; exact forward_recordsOk stepped side _
    · next eq => rw [eq] at stepped; exact stepped
    · next eq => rw [eq] at stepped; exact stepped
  · exact forward_recordsOk h side _

theorem dataUnder_recordsOk (h : s.RecordsOk) (side : Side) (tag : Tag) (settled : Bool) (f : Frame) (e : Entry) :
    (s.dataUnder side tag settled f e).RecordsOk := by
  have offered : (s.tripStep side tag f e).1.RecordsOk := by
    unfold State.tripStep
    split
    · exact offerTrip_recordsOk h _ side tag f.payload
    · exact h
  unfold State.dataUnder
  split
  · next eq => rw [eq] at offered; exact offered
  · next eq =>
    rw [eq] at offered
    split
    · exact offered
    · exact dataOnward_recordsOk offered side tag settled f e

/-- A DATA frame: settlement, match, trip unit, tag memory and hand-off (R15 to R26). -/
theorem classifyData_keeps (side : Side) (reply : Bool) (tag : Tag) (f : Frame) :
    Keeps (State.classifyData side reply tag f) := by
  intro s h
  have taken : (s.countClassifier side fun c => { c with dataTaken := bump c.dataTaken }).RecordsOk := h
  have matched : ∀ (u : State) (settled : Bool), u.RecordsOk → (u.matchData side tag settled f).RecordsOk := by
    intro u settled hu
    unfold State.matchData
    split
    · exact dataUnder_recordsOk (s := u.hit _) hu side tag settled f _
    · exact defaultAction_recordsOk hu side f
  unfold State.classifyData
  dsimp only
  split
  · exact taken
  · refine matched _ _ ?_
    split
    · exact settleReply_recordsOk taken side tag
    · exact taken

theorem forwardTracked_recordsOk (h : s.RecordsOk) (side : Side) (tag : Tag) (f : Frame) :
    (s.forwardTracked side tag f).RecordsOk := by
  have sent := forward_recordsOk h side f
  unfold State.forwardTracked
  split
  · next eq => rw [eq] at sent; exact withdrawQuery_recordsOk sent side tag
  · next eq => rw [eq] at sent; exact sent

/-- A QUERY under its winning entry: the proxy step, then the hand-off, a refused tracked one withdrawn (R21, R23). -/
theorem queryUnder_recordsOk (h : s.RecordsOk) (side : Side) (tag : Tag) (f : Frame) (e : Entry) :
    (s.queryUnder side tag f e).RecordsOk := by
  have asked := proxyStep_recordsOk h side tag f.hop (e.classOf f.cls)
  unfold State.queryUnder
  split
  · exact h
  · exact forward_recordsOk h side _
  · exact forward_recordsOk h side _
  · split
    · next eq => rw [eq] at asked; exact asked
    · next eq => rw [eq] at asked; exact asked
    · next eq => rw [eq] at asked; exact forwardTracked_recordsOk asked side tag _
    · next eq => rw [eq] at asked; exact forward_recordsOk asked side _

theorem classifyQuery_keeps (side : Side) (reply : Bool) (tag : Tag) (f : Frame) :
    Keeps (State.classifyQuery side reply tag f) := by
  intro s h
  unfold State.classifyQuery State.matchQuery
  dsimp only
  split
  · exact h
  · split
    · exact h
    · split
      · exact queryUnder_recordsOk (s := State.hit _ (s.countClassifier side _)) h side tag f _
      · exact defaultAction_recordsOk (s := s.countClassifier side _) h side f

/-- A MGMT frame is no matter of the records, whatever the agent does with it must keep them (R27 to R30). -/
theorem classifyMgmt_keeps {agent : State → State} (ha : Keeps agent) (side : Side) (f : Frame) (dst src : Station) :
    Keeps (State.classifyMgmt side f dst src agent) := by
  intro s h
  have onward : Keeps (State.forwardMgmt side f) := by
    intro u hu
    unfold State.forwardMgmt
    split
    · exact hu
    · exact forward_recordsOk hu side f
  unfold State.classifyMgmt
  dsimp only
  repeat' split
  · exact h
  · exact ha _ h
  · exact onward _ (ha _ h)
  · exact onward _ h

/-! ## The port -/

/-- The end of a frame at a port, for a reception that keeps the records (R96 to R98, R114). -/
theorem endOfFrame_keeps {take : State → State} (ht : Keeps take) (side : Side) : Keeps (State.endOfFrame side take) := by
  intro s h
  rcases s.endOfFrame_cases side take with ⟨-, e⟩ | ⟨-, -, e⟩ | ⟨-, -, e⟩ <;> rw [e]
  · exact h
  · exact h
  · exact ht s h

theorem receiveGood_keeps {classify : State → State} (hc : Keeps classify) (side : Side) :
    Keeps (State.receiveGood side classify) := fun _ h => hc _ h

/-- A message that arrives, for an agent that keeps the records. -/
theorem arrive_keeps {agent : State → State} (ha : Keeps agent) (m : Arrival) (toAll : Bool) (payload : Payload) :
    Keeps (State.arrive m toAll payload agent) := fun _ h =>
  endOfFrame_keeps (receiveGood_keeps (classifyMgmt_keeps ha _ _ _ _) _) _ _ h

/-- An event of the running part is settled; a part that does not run takes none. -/
theorem event_keeps {f : State → State} (hf : Keeps f) : Keeps (State.event f) := by
  intro s h
  unfold State.event
  split
  · exact settle_recordsOk (hf s h)
  · exact h

/-! ## The agent -/

theorem respond_keeps (m : Arrival) (r : Response) : Keeps (State.respond m r) := fun s h =>
  (sameRecords_of_steady (s.steady_respond m r)).recordsOk h

theorem keepResponse_keeps (m : Arrival) (r : Response) : Keeps (State.keepResponse m r) := by
  intro s h
  unfold State.keepResponse
  repeat' split
  all_goals exact h

theorem finish_keeps (first : Bool) (m : Arrival) (r : Response) : Keeps (State.finish first m r) := by
  intro s h
  have kept := keepResponse_keeps m r s h
  exact (sameRecords_of_steady (finish_steady (s := s) (m := m) first r)).recordsOk kept

/-- A command whose rule and whose refusal keep the records. -/
structure KeptBy (c : Command) : Prop where
  run    : Keeps fun s => (c.run s).1
  refuse : Keeps fun s => (c.refuse s).1

/-- A COMMAND taken by the agent (R144). -/
theorem take_keeps {c : Command} (hc : KeptBy c) (m : Arrival) (seq : Byte) : Keeps (State.take m seq c) := by
  intro s h
  have counted : s.countCommand.RecordsOk := h
  have decided : (s.countCommand.decideCommand m c).1.RecordsOk := by
    unfold State.decideCommand
    split
    · exact hc.refuse _ counted
    · exact hc.run _ counted
  unfold State.take
  split
  · exact respond_keeps m _ _ counted
  · split
    next eq => rw [eq] at decided; exact finish_keeps _ m _ _ decided

theorem takeBroadcast_keeps {c : Command} (hc : KeptBy c) (m : Arrival) (seq : Byte) :
    Keeps (State.takeBroadcast m seq c) := by
  intro s h
  have run : (c.run s.countCommand).1.RecordsOk := hc.run s.countCommand h
  unfold State.takeBroadcast
  split
  next eq => rw [eq] at run; exact respond_keeps m _ _ (settle_recordsOk run)

theorem takeAck_keeps (src : Station) (seq : Byte) : Keeps (State.takeAck src seq) := by
  intro s h
  unfold State.takeAck
  split <;> exact h

/-! ## The commands -/

variable {run : State → State × Reply} {code : Byte}

theorem openCommand_kept (h : Keeps fun s => (run s).1) : KeptBy (openCommand code run) := ⟨h, fun _ k => k⟩
theorem ownerCommand_kept (h : Keeps fun s => (run s).1) : KeptBy (ownerCommand code run) := ⟨h, fun _ k => k⟩

theorem noArguments_keeps (h : Keeps fun s => (run s).1) (args : Payload) :
    Keeps fun s => (noArguments args run s).1 := by
  intro s k
  dsimp only
  unfold noArguments
  split
  · exact h s k
  · exact k

theorem inClean_keeps (h : Keeps fun s => (run s).1) : Keeps fun s => (inClean run s).1 := by
  intro s k
  dsimp only
  unfold inClean
  split
  · exact k
  · exact h s k

theorem sameRecords_abortTransfer (s : State) : SameRecords s s.abortTransfer := by
  unfold State.abortTransfer
  split <;> exact ⟨rfl, rfl⟩

theorem identify_kept (args : Payload) : KeptBy (identifyCommand args) :=
  openCommand_kept (noArguments_keeps (fun _ h => h) args)

theorem openSession_kept (m : Arrival) (seq : Byte) (args : Payload) : KeptBy (openSessionCommand m seq args) := by
  refine openCommand_kept fun s h => ?_
  dsimp only
  unfold runOpen
  repeat' split
  all_goals exact h

theorem close_kept (args : Payload) : KeptBy (closeCommand args) :=
  ownerCommand_kept (noArguments_keeps (fun s h => (sameRecords_abortTransfer s).recordsOk h) args)

theorem status_kept (m : Arrival) (args : Payload) : KeptBy (statusCommand m args) := by
  refine openCommand_kept fun s h => ?_
  dsimp only
  repeat' split
  all_goals exact h

theorem readCounters_kept (args : Payload) : KeptBy (readCountersCommand args) := by
  refine openCommand_kept fun s h => ?_
  dsimp only
  repeat' split
  all_goals exact h

/-- Cleared counters are no records (R159). -/
theorem clearSet_keeps (n : Nat) : Keeps (State.clearSet n) := by
  intro s h
  unfold State.clearSet
  split
  all_goals exact h

theorem clearCounters_kept (args : Payload) : KeptBy (clearCountersCommand args) := by
  refine ownerCommand_kept fun s h => ?_
  have all : s.clearAllSets.RecordsOk := by
    unfold State.clearAllSets
    exact List.foldlRecOn _ _ h fun u hu n _ => clearSet_keeps n u hu
  dsimp only
  repeat' split
  · exact all
  · exact clearSet_keeps _ s h
  · exact h
  · exact h

theorem readEntry_kept (args : Payload) : KeptBy (readEntryCommand args) := by
  refine openCommand_kept fun s h => ?_
  dsimp only
  repeat' split
  all_goals exact h

theorem writeEntry_kept (args : Payload) : KeptBy (writeEntryCommand args) := by
  refine ownerCommand_kept fun s h => ?_
  dsimp only
  split
  · split
    · exact h
    · refine inClean_keeps (fun u hu => ?_) s h
      dsimp only
      split <;> exact hu
  · exact h

theorem writeMasksDefaults_kept (args : Payload) : KeptBy (writeMasksDefaultsCommand args) := by
  refine ownerCommand_kept fun s h => ?_
  dsimp only
  split
  · exact h
  · refine inClean_keeps (fun u hu => ?_) s h
    dsimp only
    split <;> exact hu

theorem copyActive_kept (args : Payload) : KeptBy (copyActiveCommand args) := by
  refine ownerCommand_kept (noArguments_keeps (fun s h => ?_) args)
  dsimp only
  unfold runCopyActive
  split <;> exact h

theorem commit_kept (args : Payload) : KeptBy (commitCommand args) := by
  refine ownerCommand_kept (noArguments_keeps (inClean_keeps fun s h => ?_) args)
  dsimp only
  unfold runCommit
  split <;> exact h

theorem loadBegin_kept (args : Payload) : KeptBy (loadBeginCommand args) := by
  refine ownerCommand_kept fun s h => ?_
  dsimp only
  unfold runLoadBegin
  repeat' split
  all_goals exact h

theorem refuseLoadPart_keeps (status : Status) (args : Payload) :
    Keeps fun s => (refuseLoadPart status args s).1 := by
  intro s h
  cases args <;> exact h

theorem loadPart_kept (args : Payload) : KeptBy (loadPartCommand args) where
  refuse := refuseLoadPart_keeps _ args
  run := by
    intro s h
    dsimp only [loadPartCommand]
    split
    · unfold runLoadPart
      split
      · exact h
      · exact h
      · split
        · exact h
        · split
          · exact h
          · split
            · exact (sameRecords_abortTransfer s).recordsOk h
            · split <;> exact h
    · exact refuseLoadPart_keeps _ _ s h

theorem loadEnd_kept (args : Payload) : KeptBy (loadEndCommand args) := by
  refine ownerCommand_kept fun s h => ?_
  dsimp only
  split
  · unfold runLoadEnd
    split
    · exact h
    · exact h
    · split
      · exact (sameRecords_abortTransfer s).recordsOk h
      · split
        · exact (sameRecords_abortTransfer s).recordsOk h
        · exact h
  · exact h

theorem readRecord_kept (args : Payload) : KeptBy (readRecordCommand args) := by
  refine openCommand_kept fun s h => ?_
  have readout : ∀ (i : Fin 48) (page : Nat), (s.readout i page).1.RecordsOk := by
    intro i page
    unfold State.readout
    split <;> exact h
  dsimp only
  split
  · repeat' split
    · exact readout _ _
    all_goals exact h
  · repeat' split
    · exact readout _ _
    all_goals exact h
  · exact h

/-- FLUSH_RECORDS frees what no entry names (R48). -/
theorem flush_kept (args : Payload) : KeptBy (flushCommand args) :=
  ownerCommand_kept (noArguments_keeps
    (fun s h => withTags_recordsOk (s := s) (flush_sound (recordsOk_iff.1 h))) args)

theorem readQueries_kept (args : Payload) : KeptBy (readQueriesCommand args) := by
  refine openCommand_kept fun s h => ?_
  dsimp only
  repeat' split
  all_goals exact h

theorem cancelTag_kept (args : Payload) : KeptBy (cancelTagCommand args) := by
  refine ownerCommand_kept fun s h => ?_
  dsimp only
  repeat' split
  · exact (sameRecords_of_grows (s.grows_cancelTag _ _)).recordsOk h
  · exact h
  · exact h

/-- No action on a side is a matter of the records (R108 to R110). -/
theorem sideAction_sameRecords {side : Side} {action : SideAction} {u : State}
    (e : s.sideAction side action = some u) : SameRecords s u := by
  have off : SameRecords s (s.sideOff side) := by
    unfold State.sideOff State.abortAttempt
    split <;> exact ⟨rfl, rfl⟩
  unfold State.sideAction at e
  split at e <;> cases e
  · exact ⟨rfl, rfl⟩
  · exact off
  · exact ⟨rfl, rfl⟩
  · exact ⟨rfl, rfl⟩

theorem sideControl_kept (args : Payload) : KeptBy (sideControlCommand args) := by
  refine ownerCommand_kept fun s h => ?_
  dsimp only
  split
  · split
    · unfold runSideControl
      split
      · next e => exact (sideAction_sameRecords e).recordsOk h
      · exact h
    · exact h
  · exact h

/-- A new age limit re-reads the queues (R84). -/
theorem configure_keeps (i : ParamId) (v : BitVec 16) : Keeps (State.configure i v) := by
  intro s h
  have set : (s.withParams (s.agent.params.withValue i v)).RecordsOk := h
  unfold State.configure
  dsimp only
  split
  · exact (sameRecords_of_grows ((State.grows_rereadAge _ _ _).trans (State.grows_rereadAge _ _ _))).recordsOk set
  · exact set

theorem setConfig_kept (args : Payload) : KeptBy (setConfigCommand args) := by
  refine ownerCommand_kept fun s h => ?_
  dsimp only
  repeat' split
  · exact h
  · exact h
  · exact h
  · exact configure_keeps _ _ s h
  · exact h

theorem readConfig_kept (args : Payload) : KeptBy (readConfigCommand args) := by
  refine openCommand_kept fun s h => ?_
  dsimp only
  repeat' split
  all_goals exact h

theorem setTrip_kept (args : Payload) : KeptBy (setTripCommand args) := by
  refine ownerCommand_kept fun s h => ?_
  dsimp only
  unfold runSetTrip
  repeat' split
  all_goals exact h

theorem releaseTrip_kept (args : Payload) : KeptBy (releaseTripCommand args) := by
  refine ownerCommand_kept (noArguments_keeps (fun s h => ?_) args)
  dsimp only
  unfold runReleaseTrip
  split <;> exact h

theorem readEvents_kept (args : Payload) : KeptBy (readEventsCommand args) := by
  refine openCommand_kept fun s h => ?_
  dsimp only
  repeat' split
  all_goals exact h

theorem clearEvents_kept (args : Payload) : KeptBy (clearEventsCommand args) := by
  refine ownerCommand_kept fun s h => ?_
  dsimp only
  split <;> exact h

theorem enableEvents_kept (args : Payload) : KeptBy (enableEventsCommand args) := by
  refine ownerCommand_kept fun s h => ?_
  dsimp only
  split
  · exact settle_recordsOk (s := { s with events := _ }) h
  · exact h

/-- Reading a slot out takes free bytes at most. -/
theorem slotReadout_keeps (i : SlotId) : Keeps fun s => (s.slotReadout i).1 := by
  intro s h
  dsimp only
  unfold State.slotReadout
  split <;> exact h

theorem store_kept (args : Payload) : KeptBy (storeCommand args) := by
  refine ownerCommand_kept (noArguments_keeps (fun s h => ?_) args)
  dsimp only
  unfold runStore
  split
  · exact h
  · exact slotReadout_keeps .one _ (slotReadout_keeps .zero s.beginStore h)

/-- RESTART empties the records and the list (R34, R66, R161). -/
theorem restart_kept (args : Payload) : KeptBy (restartCommand args) := by
  refine ⟨noArguments_keeps (fun s h => ?_) args, fun _ h => h⟩
  dsimp only
  unfold runRestart
  split
  · exact h
  · exact (sameRecords_abortTransfer _).recordsOk (recordsOk_iff.2 Sound.none)

theorem unknown_kept (code : Byte) : KeptBy (unknownCode code) := openCommand_kept fun _ h => h

end Sys2Proof.Machine.RecordLaws
end

section
/-! The rows that are commands, all as one: a well-formed row addressed to the coupler is the command that its code
names, taken by the agent (Table 12-3). -/

namespace Sys2Proof.Machine.CommandRows

variable {m : Arrival} {seq code : Byte} {args : Payload} {s t : State}

/-- A message that arrives and goes on fits the bus. -/
theorem fits_of_next {fits toAll : Bool} {payload : Payload} {agent : State → State}
    (h : arrival fits m toAll payload agent s = .next t) : fits = true := by
  unfold arrival at h
  split at h
  · assumption
  · cases h

/-- A row that goes on is one the bus can carry. -/
theorem wellFormed_of_next {i : Instr} (h : exec i s = .next t) : i.wellFormed = true := by
  cases i with
  | rstNLow | powerLoss | startUp | startingEnd | reception | transmitterSelection | lineWaitExpiry | attemptCompletion
  | recoveryDeadline | ageDeadline | freshnessDeadline | queryEntryDeadline | windowDeadline | leaseDeadline
  | idleDeadline | retryDeadline | storeCompletion | ack | sideControlOff | sideControlOn | sideControlRecover => rfl
  | _ => exact fits_of_next h

theorem eq_of_toNat {c : Byte} {n : Nat} (e : c.toNat = n) : c = BitVec.ofNat 8 n := by subst e; simp

/-- A code that names no command is answered as unknown (R144 step 2). -/
theorem commandFor_unknown (h : knownCode code = false) : commandFor m seq code args = unknownCode code := by
  unfold commandFor
  split
  case h_29 => rfl
  all_goals next e => obtain rfl := eq_of_toNat e; exact absurd h (by decide)

/-- The message of a row that is an addressed command begins with the header of a COMMAND (Table 12-2). -/
theorem message_of_command {i : Instr} (c : i.command = some (m, seq, code)) :
    ∃ b rest, i.message = some (m, false, 0x00 :: seq :: code :: b :: rest) := by
  unfold Instr.command at c
  split at c
  · next e => cases c; exact ⟨_, _, e⟩
  · cases c

/-- A command row is the taking of the command its code names, with arguments that fit a message. -/
theorem command_row {i : Instr} (w : i.wellFormed = true) (c : i.command = some (m, seq, code)) :
    argsFit i.args = true ∧ ∀ s, exec i s = addressed m seq i.args (commandFor m seq code i.args) s := by
  cases i with
  | badMessage m' toAll payload =>
    obtain ⟨b, rest, e⟩ := message_of_command c
    cases e
    simp [Instr.wellFormed, badHeader] at w
  | ignoredMessage m' toAll payload =>
    obtain ⟨b, rest, e⟩ := message_of_command c
    cases e
    simp [Instr.wellFormed, ignorable] at w
  | unknownCommand m' seq' code' args =>
    cases c
    simp only [Instr.wellFormed, Bool.and_eq_true, Bool.not_eq_true'] at w
    obtain ⟨fit, unknown⟩ := w
    refine ⟨fit, fun s => ?_⟩
    rw [commandFor_unknown unknown]
    change arrival (argsFit args && !knownCode code) m false _ _ s = arrival (argsFit args) m false _ _ s
    rw [unknown, Bool.not_false, Bool.and_true]
    rfl
  | identify m' toAll seq' args =>
    cases toAll with
    | false => cases c; exact ⟨w, fun _ => rfl⟩
    | true => cases c
  | _ => cases c <;> exact ⟨w, fun _ => rfl⟩

end Sys2Proof.Machine.CommandRows

namespace Sys2Proof.Machine.RecordLaws

variable {s t : State}

/-- Every command keeps the records. -/
theorem commandFor_kept (m : Arrival) (seq code : Byte) (args : Payload) : KeptBy (commandFor m seq code args) := by
  unfold commandFor
  split
  · exact identify_kept args
  · exact openSession_kept m seq args
  · exact close_kept args
  · exact status_kept m args
  · exact readCounters_kept args
  · exact clearCounters_kept args
  · exact readEntry_kept args
  · exact writeEntry_kept args
  · exact writeMasksDefaults_kept args
  · exact copyActive_kept args
  · exact commit_kept args
  · exact loadBegin_kept args
  · exact loadPart_kept args
  · exact loadEnd_kept args
  · exact readRecord_kept args
  · exact flush_kept args
  · exact readQueries_kept args
  · exact cancelTag_kept args
  · exact sideControl_kept args
  · exact setConfig_kept args
  · exact readConfig_kept args
  · exact setTrip_kept args
  · exact releaseTrip_kept args
  · exact readEvents_kept args
  · exact clearEvents_kept args
  · exact enableEvents_kept args
  · exact store_kept args
  · exact restart_kept args
  · exact unknown_kept code

/-! ## Receptions and messages -/

/-- What the agent does with a message, whatever it is (R143). -/
theorem agentTakes_keeps (m : Arrival) (toAll : Bool) (payload : Payload) :
    Keeps (State.agentTakes m toAll payload) := by
  intro s h
  unfold State.agentTakes State.takeAnnouncement State.takeMessage
  split
  · repeat' split
    · exact h
    · exact takeBroadcast_keeps (identify_kept _) m _ s h
    · exact h
    · exact take_keeps (commandFor_kept m _ _ _) m _ s h
    · exact takeAck_keeps _ _ s h
    · exact h
    · exact h
  · exact h

theorem receive_keeps (side : Side) (bytes : List Byte) : Keeps (State.receive side bytes) := by
  have classify : ∀ f, Keeps (State.classify side f) := by
    intro f s h
    unfold State.classify
    split
    · exact classifyData_keeps side _ _ f s h
    · exact classifyQuery_keeps side _ _ f s h
    · exact classifyMgmt_keeps (agentTakes_keeps _ _ _) side f _ _ s h
    · exact h
  refine endOfFrame_keeps (fun s h => ?_) side
  split
  · exact receiveGood_keeps (classify _) side s h
  · exact h

/-- A message row that the bus can carry is an event, else it stops (log entry 20). -/
theorem arrival_recordsOk (h : s.RecordsOk) {fits toAll : Bool} {m : Arrival} {payload : Payload}
    {agent : State → State} (ha : Keeps agent) (e : arrival fits m toAll payload agent s = .next t) :
    t.RecordsOk := by
  unfold arrival at e
  split at e <;> cases e
  exact event_keeps (arrive_keeps ha m toAll payload) s h

/-! ## Ports and deadlines -/

theorem endAttempt_keeps (side : Side) (o : LineOutcome) : Keeps (State.endAttempt side o) := by
  intro s h
  have tested : ∀ u : State, SameRecords u (u.testSide side) := by
    intro u
    unfold State.testSide
    dsimp only
    repeat' split
    all_goals exact ⟨rfl, rfl⟩
  unfold State.endAttempt
  split
  · exact (tested _).recordsOk ((sameRecords_of_grows (s.grows_settleFate side o)).recordsOk h)
  · exact h

theorem select_keeps (side : Side) : Keeps (State.select side) := by
  intro s h
  unfold State.select
  split
  · exact h
  · split <;> exact h

theorem autoRecover_keeps (side : Side) : Keeps (State.autoRecover side) := by
  intro s h
  unfold State.autoRecover
  dsimp only
  split <;> exact h

theorem ageOut_keeps (side : Side) (place : Nat) : Keeps (State.ageOut side place) := by
  intro s h
  unfold State.ageOut
  repeat' split
  · exact (sameRecords_of_grows (s.grows_expire side place)).recordsOk h
  · exact h
  · exact h

theorem lapseWindow_keeps : Keeps State.lapseWindow := by
  intro s h
  unfold State.lapseWindow
  split <;> exact h

theorem expireLease_keeps : Keeps State.expireLease := by
  intro s h
  unfold State.expireLease
  repeat' split
  · exact (sameRecords_abortTransfer s).recordsOk h
  · exact h
  · exact h

theorem expireTransfer_keeps : Keeps State.expireTransfer := by
  intro s h
  unfold State.expireTransfer
  repeat' split
  · exact (sameRecords_abortTransfer s).recordsOk h
  all_goals exact h

theorem retryReport_keeps : Keeps State.retryReport := by
  intro s h
  unfold State.retryReport
  repeat' split
  all_goals exact h

theorem completeStore_keeps (verified : Bool) : Keeps (State.completeStore verified) := by
  intro s h
  unfold State.completeStore State.endStore
  repeat' split
  all_goals exact h

/-! ## Power and start-up -/

/-- A part that starts or stops holds no record and no entry (R34, R66, R190). -/
theorem started_recordsOk (img : Image) (x : ImageStore) (free : Nat) (pending : List Instr) :
    (State.started img x free pending).RecordsOk := recordsOk_iff.2 Sound.none

theorem stopped_recordsOk (s : State) (phase : Phase) : (s.stopped phase).RecordsOk := recordsOk_iff.2 Sound.none

theorem endStarting_keeps (busyA busyB : Bool) : Keeps (State.endStarting busyA busyB) := by
  intro s h
  unfold State.endStarting
  split
  · refine settle_recordsOk ?_
    unfold State.setDue
    split <;> exact h
  all_goals exact h

/-! ## Every row -/

theorem exec_recordsOk (h : s.RecordsOk) {i : Instr} (e : exec i s = .next t) : t.RecordsOk := by
  cases c : i.command with
  | some x =>
    obtain ⟨m, seq, code⟩ := x
    rw [(CommandRows.command_row (CommandRows.wellFormed_of_next e) c).2] at e
    exact arrival_recordsOk h (take_keeps (commandFor_kept m seq code i.args) m seq) e
  | none =>
    cases i with
    | rstNLow => cases e; exact stopped_recordsOk s .held
    | powerLoss => cases e; exact stopped_recordsOk s .unpowered
    | startUp strap failmodeHigh checks0 checks1 => cases e; exact started_recordsOk _ _ _ _
    | startingEnd busyA busyB => cases e; exact endStarting_keeps busyA busyB s h
    | reception side bytes => cases e; exact event_keeps (receive_keeps side bytes) s h
    | transmitterSelection side => cases e; exact event_keeps (select_keeps side) s h
    | lineWaitExpiry side =>
      cases e
      refine event_keeps (fun u hu => ?_) s h
      split
      · exact endAttempt_keeps side .lineError u hu
      · exact hu
    | attemptCompletion side outcome => cases e; exact event_keeps (endAttempt_keeps side outcome) s h
    | recoveryDeadline side => cases e; exact event_keeps (autoRecover_keeps side) s h
    | ageDeadline side place => cases e; exact event_keeps (ageOut_keeps side place) s h
    | freshnessDeadline record =>
      cases e
      exact event_keeps (fun u hu => withTags_recordsOk (s := u) (expire_sound (recordsOk_iff.1 hu) record)) s h
    | queryEntryDeadline place =>
      cases e
      exact event_keeps (fun u hu => timeoutQuery_recordsOk hu place) s h
    | windowDeadline => cases e; exact event_keeps lapseWindow_keeps s h
    | leaseDeadline => cases e; exact event_keeps expireLease_keeps s h
    | idleDeadline => cases e; exact event_keeps expireTransfer_keeps s h
    | retryDeadline => cases e; exact event_keeps retryReport_keeps s h
    | storeCompletion verified => cases e; exact event_keeps (completeStore_keeps verified) s h
    | ack m seq =>
      change arrival true m false (ackPayload seq) (State.takeAck m.source seq) s = .next t at e
      exact arrival_recordsOk h (takeAck_keeps m.source seq) e
    | badMessage m toAll payload => exact arrival_recordsOk (agent := State.countBadMessage) h (fun _ k => k) e
    | ignoredMessage m toAll payload => exact arrival_recordsOk (agent := State.countIgnoredMessage) h (fun _ k => k) e
    | identify m toAll seq args =>
      cases toAll with
      | true => exact arrival_recordsOk h (takeBroadcast_keeps (identify_kept args) m seq) e
      | false => cases c
    | _ => cases c

/-- Settles O56: a tick and the queue of commands are no matter of the records, and every row keeps them. -/
theorem recordsAndQueriesStayBound : Obligations.RecordsAndQueriesStayBound := by
  unfold Obligations.RecordsAndQueriesStayBound
  intro s t h e
  unfold step at e
  split at e
  · cases e
    unfold State.tick
    split <;> exact h
  · next c rest _ => exact exec_recordsOk (s := { s with pending := rest }) h e

end Sys2Proof.Machine.RecordLaws
end

section
/-! A command's delivery and answer where there is room, and the ends of records and queries: the freshness deadline, the
deadline of an outstanding entry and FLUSH_RECORDS. -/

namespace Sys2Proof.Machine.DeliveryLaws

variable {s : State} {m : Arrival}

/-- Delivering a message makes no report. -/
theorem delivered_quiet (h : s.Quiet) : (s.delivered m).Quiet := (State.quiet_congr rfl).2 h

/-- Delivering a message takes no room. -/
theorem delivered_room {side : Side} (h : s.Room side) : (s.delivered m).Room side := by
  obtain ⟨takes, below, slot⟩ := h
  refine ⟨?_, below, slot⟩
  have same : ((s.delivered m).ports.get side).state = (s.ports.get side).state := by
    change ((s.ports.modify m.side _).get side).state = _
    rw [PerSide.get_modify_at]
    split <;> rfl
  rw [same]; exact takes

/-- An event of the running part that leaves nothing to settle. -/
theorem event_quiet {f : State → State} (run : s.phase = .running) (q : (f s).Quiet) : s.event f = f s := by
  unfold State.event
  rw [if_pos (by simp [State.running, run]), State.settle_of_quiet q]

end Sys2Proof.Machine.DeliveryLaws

namespace Sys2Proof.Machine.RecordLaws

open DeliveryLaws

variable {s : State} {m : Arrival} {seq : Byte} {x : Session}

/-! ## Deadlines -/

/-- A FRESH record whose deadline is reached goes STALE (R47). -/
theorem expire_fresh {t : TagMemory} {i : Fin 48} {r : Record} {now : CTime} (hr : t.records[i] = some r)
    (fresh : r.freshness = .fresh) (past : reached now r.freshUntil = true) :
    t.expire i now =
      { records := t.records.set i (some { r with freshness := .stale })
        counters := { t.counters with expiries := bump t.counters.expiries } } := by
  unfold TagMemory.expire
  rw [hr]
  exact if_pos ⟨fresh, past⟩

/-- The entry at a place removed: the list loses that place, and the record is unbound. -/
theorem removeQuery_eq (apart : (s.proxy.list.map QueryEntry.key).Nodup) {place : Nat} {q : QueryEntry} {r : Record}
    (hq : s.proxy.list[place]? = some q) (hr : s.tags.records[q.record] = some r) :
    s.removeQuery q =
      { s with
        proxy := { s.proxy with list := s.proxy.list.eraseIdx place }
        tags := { s.tags with records := s.tags.records.set q.record (some { r with bound := false }) } } := by
  obtain ⟨lt, at_place⟩ := List.getElem?_eq_some_iff.1 hq
  have erased : s.proxy.list.eraseP (·.keyed q.target q.tag) = s.proxy.list.eraseIdx place := by
    rw [eraseP_keyed apart (List.mem_of_getElem? hq), ← at_place]
    exact List.Nodup.erase_getElem (.of_map _ apart) place lt
  simp only [State.removeQuery, TagMemory.bind, modify_eq hr, erased]

/-! ## FLUSH_RECORDS -/

/-- A record that FLUSH_RECORDS frees is held and not bound. -/
theorem flushable_eq : Record.flushable = fun o => o.isSome && !(o.elim true Record.bound) := by
  funext o; cases o <;> rfl

/-- Each held record is freed or still held. -/
theorem countP_isSome_eq (l : List (Option Record)) :
    l.countP Option.isSome =
      l.countP Record.flushable + (l.map fun o => if Record.flushable o then none else o).countP Option.isSome := by
  induction l with
  | nil => rfl
  | cons o l ih =>
    cases o with
    | none => simpa [Record.flushable] using ih
    | some r => cases hb : r.bound <;> simp [Record.flushable, hb, ih] <;> omega

/-- The records that are held and those that FLUSH_RECORDS frees (R48). -/
theorem flush_heldCount (t : TagMemory) :
    t.heldCount = t.records.toList.countP Record.flushable + t.flush.heldCount := by
  unfold TagMemory.heldCount
  rw [countP_isSome_eq]
  simp only [TagMemory.flush, Vector.toList_map]

/-- The owner's new command whose rule changes the tag memory alone: what it answers and what it leaves. -/
theorem addressed_tags {args : Payload} {c : Command} {t : TagMemory} {reply : Reply} (h : s.HearsOwner m seq x)
    (fit : argsFit args = true) (run : c.run (s.delivered m) = ({ s.delivered m with tags := t }, reply)) :
    ∃ u, addressed m seq args c s = .next u ∧ s.AnswersOnly u m ⟨seq, c.code, reply.status, reply.args⟩ [] ∧
      u.steady =
        { s.steady with
          tags := t
          session := some (x.answered s.now m.side ⟨seq, c.code, reply.status, reply.args⟩) } := by
  obtain ⟨u, next, steady, -⟩ := addressed_owner_steady h fit run h.2.1 h.2.2.1
  refine ⟨u, next, fun quiet room => ?_, ?_⟩
  · have only := addressed_room (u := { s.delivered m with tags := t }) h.1 (HearsOwner.lets h).1
      (fun _ => (HearsOwner.lets h).2) fit run (delivered_quiet (m := m) quiet.1) (delivered_room (m := m) room)
    rw [next] at only
    cases only
    unfold State.answeredBy
    rw [keepResponse_owner (s := { s.delivered m with tags := t }) _ h.2.1 h.2.2.1]
    rfl
  · have tags : ({ s.delivered m with tags := t } : State).steady = { (s.delivered m).steady with tags := t } := rfl
    rw [steady, tags, State.steady_delivered]
    rfl

/-- Settles O18, by the laws of the three rows. -/
theorem recordsExpireAndAreFlushed : Obligations.RecordsExpireAndAreFlushed := by
  unfold Obligations.RecordsExpireAndAreFlushed
  refine ⟨?_, ?_, ?_⟩
  · intro i r s run quiet hr fresh past
    change Host.Outcome.next (s.event fun s => { s with tags := s.tags.expire i s.now }) = _
    rw [event_quiet run ((State.quiet_congr rfl).2 quiet), expire_fresh hr fresh past]
  · rintro place q r s run ⟨-, apart, -, -⟩ hq hr past
    have timed : s.timeoutQuery place =
        ((s.removeQuery q).setFlag .queryTimeout).countProxy q.target.far fun c =>
          { c with timeout := bump c.timeout } := by
      unfold State.timeoutQuery
      rw [hq]
      exact if_pos past
    have next : exec (.queryEntryDeadline place) s = .next (s.timeoutQuery place).settle := by
      change Host.Outcome.next (s.event _) = _
      unfold State.event
      rw [if_pos (by simp [State.running, run])]
    refine ⟨_, next, (State.grows_settle _).has ?_, fun ⟨quiet, unreported⟩ => ?_, ?_⟩
    · rw [timed]; exact State.has_setFlag _ _
    · have marked : (s.timeoutQuery place).events = s.events.mark .queryTimeout := by
        rw [timed]; exact Events.setFlag_unreported _ _ _ _ unreported
      have settled : (s.timeoutQuery place).settle = s.timeoutQuery place :=
        State.settle_of_quiet ((State.quiet_congr (by rw [marked]; rfl)).2 quiet)
      rw [settled]
      unfold State.Leaves State.rest
      rw [marked, timed]
      rfl
    · rw [State.steady_settle, timed, removeQuery_eq apart hq hr]
      rfl
  · intro m seq x s freed h counted r
    have held := flush_heldCount s.tags
    rw [← flushable_eq] at counted
    have run : (flushCommand []).run (s.delivered m) =
        ({ s.delivered m with tags := s.tags.flush }, okReply
          [countByte freed, countByte (s.tags.records.toList.countP Option.isSome - freed)]) := by
      change ({ s.delivered m with tags := s.tags.flush }, okReply
        [countByte (s.tags.heldCount - s.tags.flush.heldCount), countByte s.tags.flush.heldCount]) = _
      rw [counted, show s.tags.records.toList.countP Option.isSome = s.tags.heldCount from rfl, held,
        Nat.add_sub_cancel, Nat.add_sub_cancel_left]
    obtain ⟨u, next, only, steady⟩ := addressed_tags h (args := []) rfl run
    refine ⟨u, s.tags.flush.records, next, only, flush_records s.tags, ?_⟩
    have flushed : s.tags.flush =
        ⟨s.tags.flush.records, { s.tags.counters with flushed := satAdd s.tags.counters.flushed freed }⟩ := by
      rw [counted]; rfl
    rw [steady, flushed]
    rfl

end Sys2Proof.Machine.RecordLaws
end

section
/-! A command that changes nothing but free bytes is answered and nothing else, where there is room; and the reads of the
banks, the records and the outstanding list (R49, R67, R123). -/

namespace Sys2Proof.Machine.CommandRows

/-- The command of a code bears that code, and is owner-only just when Table 8-3 says so. -/
theorem commandFor_head (m : Arrival) (seq code : Byte) (args : Payload) :
    (commandFor m seq code args).code = code ∧
      (commandFor m seq code args).ownerOnly = decide (code ∈ ownerCodes) := by
  cases known : knownCode code with
  | false =>
    rw [commandFor_unknown known]
    refine ⟨rfl, (decide_eq_false fun mem => ?_).symm⟩
    have all : ∀ c ∈ ownerCodes, knownCode c = true := by decide
    rw [all code mem] at known; cases known
  | true =>
    simp only [knownCode, Bool.and_eq_true, decide_eq_true_eq, BitVec.le_def] at known
    unfold commandFor
    split
    case h_29 => exfalso; simp_all; omega
    all_goals next e => obtain rfl := eq_of_toNat e; exact ⟨rfl, rfl⟩

end Sys2Proof.Machine.CommandRows

namespace Sys2Proof.Machine.DeliveryLaws

variable {s : State} {m : Arrival} {seq code : Byte} {status : Status} {args : Payload}

/-- A new command is handed to the agent, with nothing to settle and room for its response; an owner-only one comes from
the owner. -/
structure Ready (s : State) (m : Arrival) (seq code : Byte) : Prop where
  hears : s.Hears m
  quiet : s.Quiet
  room  : s.Room m.side
  new   : s.NewCommand m seq
  owner : code ∈ ownerCodes → ∃ x, s.agent.session = some x ∧ x.owner = m.source

/-- A command let through whose rule takes free bytes at most is answered, and nothing else happens. -/
theorem exec_free (h : Ready s m seq code) (i : Instr) (w : i.wellFormed = true)
    (c : i.command = some (m, seq, code)) (rule : Command) (is : commandFor m seq code i.args = rule) {n : Nat}
    (run : rule.run (s.delivered m) = ({ s.delivered m with free := n }, ⟨status, args⟩)) :
    exec i s = .next ({ s.delivered m with free := n }.answeredBy m ⟨seq, code, status, args⟩) := by
  subst is
  obtain ⟨fit, row⟩ := CommandRows.command_row w c
  obtain ⟨same, owner⟩ := CommandRows.commandFor_head m seq code i.args
  have lets : (commandFor m seq code i.args).ownerOnly = true → s.ownedBy m.source = true := by
    intro only
    rw [owner, decide_eq_true_eq] at only
    obtain ⟨x, sess, own⟩ := h.owner only
    simp [State.ownedBy, sess, own]
  rw [row, addressed_room h.hears h.new lets fit run (delivered_quiet (m := m) h.quiet)
    (delivered_room (m := m) h.room), same]

/-- A command let through whose rule changes nothing is answered, and nothing else happens. -/
theorem exec_same (h : Ready s m seq code) (i : Instr) (w : i.wellFormed = true)
    (c : i.command = some (m, seq, code)) (rule : Command) (is : commandFor m seq code i.args = rule)
    (run : rule.run (s.delivered m) = (s.delivered m, ⟨status, args⟩)) :
    exec i s = .next ((s.delivered m).answeredBy m ⟨seq, code, status, args⟩) :=
  exec_free (n := (s.delivered m).free) h i w c rule is run

end Sys2Proof.Machine.DeliveryLaws

namespace Sys2Proof.Machine.ReadLaws

open DeliveryLaws RecordLaws

variable {s u : State}

/-! ## The codes of indices, sides and settings -/

theorem countByte_toNat {n : Nat} (h : n < 256) : (countByte n).toNat = n := by
  simp only [countByte, BitVec.toNat_ofNat]; omega

theorem entryIndex_countByte (i : Fin 64) : entryIndex (countByte i.val) = some i := by
  simp [entryIndex, countByte_toNat (show i.val < 256 by omega)]

theorem recordNumber_countByte (i : Fin 48) : recordNumber (countByte i.val) = some i := by
  simp [recordNumber, countByte_toNat (show i.val < 256 by omega)]

/-- An entry index is not the code of a bank's header (R123). -/
theorem countByte_ne_header (i : Fin 64) : countByte i.val ≠ 0xFF := by
  intro e
  have := congrArg BitVec.toNat e
  rw [countByte_toNat (by omega)] at this
  exact absurd this (by have := i.isLt; simp; omega)

@[simp] theorem ofCode_code (side : Side) : Side.ofCode side.code = some side := by cases side <;> rfl

theorem passDrop_code (p : PassDrop) : p.code = if p = .pass then 0 else 1 := by cases p <;> rfl

/-! ## READ_ENTRY -/

/-- An entry read (R123). -/
theorem readEntry_entry {code : Byte} {bank : Bank} (i : Fin 64) (hb : u.banks.ofCode code = some bank) :
    (readEntryCommand [code, countByte i.val]).run u =
      (u, okReply ([u.banks.shadowState.code, code, countByte i.val] ++ (bank.entries[i]).bytes ++
        u.hitBytes code i)) := by
  simp only [readEntryCommand, openCommand, hb, if_neg (countByte_ne_header i), entryIndex_countByte]

/-- A bank's header read (R123). -/
theorem readEntry_header {code : Byte} {bank : Bank} (hb : u.banks.ofCode code = some bank) :
    (readEntryCommand [code, 0xFF]).run u =
      (u, okReply ([u.banks.shadowState.code, code, 0xFF] ++ bank.header.bytes)) := by
  simp only [readEntryCommand, openCommand, hb, if_true]

/-- The bytes of a header, its settings by their codes. -/
theorem header_bytes (h : BankHeader) :
    h.bytes =
      tagBytes h.masks[0] ++ tagBytes h.masks[1] ++ tagBytes h.masks[2] ++ tagBytes h.masks[3] ++
        [if h.defaults.a = .pass then 0 else 1, if h.defaults.b = .pass then 0 else 1,
          if h.mgmtPass = .pass then 0 else 1] := by
  simp only [BankHeader.bytes, passDrop_code]

/-! ## READ_RECORD -/

/-- Where no two records have one key, a record is found by its own (R33). -/
theorem find_key {t : TagMemory} (keys : t.KeysOk) {i : Fin 48} {r : Record} (hr : t.records[i] = some r) :
    t.find r.origin r.tag = some i := by
  cases found : t.find r.origin r.tag with
  | none => exact absurd ⟨rfl, rfl⟩ (TagMemory.find_none.1 found i r hr)
  | some j =>
    obtain ⟨x, hx, o, g⟩ := TagMemory.find_some found
    rw [keysOk_iff.1 keys j i x r hx hr (by simp [Record.key, o, g])]

/-- The argument bytes behind the page name record `i`, by its number or by its key (R49). -/
def Selects (select : Payload) (i : Fin 48) (r : Record) : Prop :=
  select = [0, countByte i.val] ∨
    ∃ h md l, select = [1, r.origin.code, h, md, l] ∧ argTag h md l = some r.tag

theorem argsFit_selects {select : Payload} {i : Fin 48} {r : Record} (sel : Selects select i r) (page : Byte) :
    argsFit (page :: select) = true := by
  rcases sel with rfl | ⟨h, md, l, rfl, -⟩ <;> rfl

/-- A record that is held is read out, whichever way it is named (R49). -/
theorem readRecord_run {select : Payload} {i : Fin 48} {r : Record} {page : Byte} (sel : Selects select i r)
    (small : page.toNat ≤ 4) (keys : u.tags.KeysOk) (hr : u.tags.records[i] = some r) :
    (readRecordCommand (page :: select)).run u = u.readout i page.toNat := by
  rcases sel with rfl | ⟨h, md, l, rfl, tag⟩
  · simp only [readRecordCommand, openCommand, small, recordNumber_countByte, and_self, if_true]
  · simp only [readRecordCommand, openCommand, small, ofCode_code, tag, find_key keys hr, and_self, if_true]

/-- A page that holds no absent value needs no free byte. -/
theorem readout_present {i : Fin 48} {r : Record} {page : Nat} (hr : u.tags.records[i] = some r)
    (present : r.pageAbsent page = false) : u.readout i page = (u, okReply (countByte i.val :: r.page page [])) := by
  simp only [State.readout, hr, present]
  rfl

/-- The length byte of an absent value is free (log entry 2). -/
theorem readout_absent {i : Fin 48} {r : Record} {page : Nat} (hr : u.tags.records[i] = some r)
    (absent : r.pageAbsent page = true) :
    u.readout i page =
      ({ u with free := u.free + 1 }, okReply (countByte i.val :: r.page page [Config.freeByte u.free])) := by
  simp only [State.readout, hr, absent]
  rfl

/-- The first page of a value: its length and 16 bytes of it. -/
theorem page_first {r : Record} {page : Byte} {v : Payload}
    (h : page = 1 ∧ r.held = some v ∨ page = 3 ∧ r.candidate = some v) :
    page.toNat ≤ 4 ∧ r.pageAbsent page.toNat = false ∧
      r.page page.toNat [] = [r.statusByte, countByte v.length] ++ v.take 16 := by
  rcases h with ⟨rfl, h⟩ | ⟨rfl, h⟩ <;> simp [Record.page, valuePage, Record.pageAbsent, h]

/-- The second page of a value: its length and the bytes that follow. -/
theorem page_second {r : Record} {page : Byte} {v : Payload}
    (h : page = 2 ∧ r.held = some v ∨ page = 4 ∧ r.candidate = some v) :
    page.toNat ≤ 4 ∧ r.pageAbsent page.toNat = false ∧
      r.page page.toNat [] = [r.statusByte, countByte v.length] ++ v.drop 16 := by
  rcases h with ⟨rfl, h⟩ | ⟨rfl, h⟩ <;> simp [Record.page, valuePage, Record.pageAbsent, h]

/-- A page of a value that the record does not have. -/
theorem page_absent {r : Record} {page b : Byte}
    (h : (page = 1 ∨ page = 2) ∧ r.held = none ∨ (page = 3 ∨ page = 4) ∧ r.candidate = none) :
    page.toNat ≤ 4 ∧ r.pageAbsent page.toNat = true ∧ r.page page.toNat [b] = [r.statusByte, b] := by
  rcases h with ⟨rfl | rfl, h⟩ | ⟨rfl | rfl, h⟩ <;> simp [Record.page, valuePage, Record.pageAbsent, h]

/-- A free record has no page (log entry 10). -/
theorem readRecord_free {i : Fin 48} {page : Byte} (small : page.toNat ≤ 4) (free : u.tags.records[i] = none) :
    (readRecordCommand [page, 0, countByte i.val]).run u = (u, okReply [countByte i.val, 0]) := by
  simp only [readRecordCommand, openCommand, small, recordNumber_countByte, and_self, if_true, State.readout, free]

/-- A key that no record has (log entry 10). -/
theorem readRecord_missed {side : Side} {tag : Tag} {page h md l : Byte} (small : page.toNat ≤ 4)
    (name : argTag h md l = some tag)
    (missed : ∀ (i : Fin 48) (r : Record), u.tags.records[i] = some r → r.key ≠ (side, tag)) :
    (readRecordCommand [page, 1, side.code, h, md, l]).run u = (u, okReply [0xFF, 0]) := by
  have none_found : u.tags.find side tag = none :=
    TagMemory.find_none.2 fun i r hr ⟨o, g⟩ => missed i r hr (by simp [Record.key, o, g])
  simp only [readRecordCommand, openCommand, small, ofCode_code, name, none_found, and_self, if_true]

/-! ## READ_QUERIES -/

/-- A place of the outstanding list read (R67). -/
theorem readQueries_run {first : Byte} (small : first.toNat ≤ 15) :
    (readQueriesCommand [first]).run u =
      (u, okReply (be32 u.now ++ [countByte u.proxy.list.length, first] ++
        (u.proxy.list[first.toNat]?.elim [] QueryEntry.bytes))) := by
  simp only [readQueriesCommand, openCommand, if_neg (Nat.not_lt.2 small)]
  cases u.proxy.list[first.toNat]? <;> rfl

/-! ## The answers -/

/-- Settles O43: each read changes nothing but free bytes, by the laws of the reads above. -/
theorem readsOfTheTablesAreAnswered : Obligations.ReadsOfTheTablesAreAnswered := by
  unfold Obligations.ReadsOfTheTablesAreAnswered
  rintro m seq s d hears quiet room new rfl
  have ready (code : Byte) (anyone : code ∉ ownerCodes) : Ready s m seq code :=
    ⟨hears, quiet, room, new, fun only => absurd only anyone⟩
  have entry := ready 0x07 (by decide)
  have record := ready 0x0F (by decide)
  have queries := ready 0x11 (by decide)
  refine ⟨fun i => ⟨?_, ?_⟩, ?_, ?_, ?_, ?_, ?_⟩
  · exact exec_same entry (.readEntry m seq [0, countByte i.val]) rfl rfl (readEntryCommand [0, countByte i.val]) rfl
      (readEntry_entry i rfl)
  · exact exec_same entry (.readEntry m seq [1, countByte i.val]) rfl rfl (readEntryCommand [1, countByte i.val]) rfl
      (readEntry_entry i rfl)
  · rintro code h (⟨rfl, rfl⟩ | ⟨rfl, rfl⟩) <;> rw [← header_bytes]
    · exact exec_same entry (.readEntry m seq [0, 0xFF]) rfl rfl (readEntryCommand [0, 0xFF]) rfl
        (readEntry_header rfl)
    · exact exec_same entry (.readEntry m seq [1, 0xFF]) rfl rfl (readEntryCommand [1, 0xFF]) rfl
        (readEntry_header rfl)
  · intro i page select r sel keys hr
    have fit := argsFit_selects sel page
    have read (small : page.toNat ≤ 4) {n : Nat} {args : Payload}
        (run : (s.delivered m).readout i page.toNat = ({ s.delivered m with free := n }, okReply args)) :
        exec (.readRecord m seq (page :: select)) s =
          .next ({ s.delivered m with free := n }.answeredBy m ⟨seq, 0x0F, .ok, args⟩) :=
      exec_free record (.readRecord m seq (page :: select)) fit rfl (readRecordCommand (page :: select)) rfl
        ((readRecord_run (u := s.delivered m) sel small keys hr).trans run)
    have present (small : page.toNat ≤ 4) (there : r.pageAbsent page.toNat = false) :=
      read small (readout_present (u := s.delivered m) hr there)
    refine ⟨?_, ?_, ?_, ?_⟩
    · rintro rfl
      exact present (by decide) rfl
    · intro v h
      obtain ⟨small, there, bytes⟩ := page_first h
      have answer := present small there
      rw [bytes] at answer; exact answer
    · intro v h
      obtain ⟨small, there, bytes⟩ := page_second h
      have answer := present small there
      rw [bytes] at answer; exact answer
    · intro h
      obtain ⟨small, gone, bytes⟩ := page_absent (b := Config.freeByte (s.delivered m).free) h
      exact ⟨_, _, bytes ▸ read small (readout_absent (u := s.delivered m) hr gone)⟩
  · intro i page small free
    exact exec_same record (.readRecord m seq [page, 0, countByte i.val]) rfl rfl _ rfl (readRecord_free small free)
  · intro side tag page h md l small name missed
    exact exec_same record (.readRecord m seq [page, 1, side.code, h, md, l]) rfl rfl _ rfl
      (readRecord_missed small name missed)
  · intro first small
    exact exec_same queries (.readQueries m seq [first]) rfl rfl _ rfl (readQueries_run small)

end Sys2Proof.Machine.ReadLaws
end

section
/-! Wrong arguments (R154, R194): for each command, what its rule admits of a length, a code, an index and a value; and
that it answers BAD_ARGUMENT and changes nothing where they are not admitted. -/

namespace Sys2Proof.Machine.ArgumentLaws

open DeliveryLaws ReadLaws

variable {m : Arrival} {seq code : Byte} {args : Payload} {s u : State}

/-- A command's rule answers BAD_ARGUMENT without arguments and changes nothing. -/
def Refuses (c : Command) (u : State) : Prop := c.run u = (u, bareReply .badArgument)

/-! ## Lengths (Table 12-3) -/

/-- Some argument where there should be none. -/
theorem refuses_noArguments (codes : code ∈ [0x01, 0x03, 0x0A, 0x0B, 0x10, 0x17, 0x1B, 0x1C]) (h : args.length ∉ [0]) :
    Refuses (commandFor m seq code args) u := by
  obtain ⟨a, rest, rfl⟩ : ∃ a rest, args = a :: rest := List.exists_cons_of_ne_nil (by simpa using h)
  simp only [List.mem_cons, List.not_mem_nil, or_false] at codes
  rcases codes with rfl | rfl | rfl | rfl | rfl | rfl | rfl | rfl <;> rfl

/-- No argument, or a second one, where there should be one. -/
theorem refuses_one (codes : code ∈ [0x02, 0x04, 0x06, 0x0C, 0x11, 0x15]) (h : args.length ∉ [1]) :
    Refuses (commandFor m seq code args) u := by
  simp only [List.mem_cons, List.not_mem_nil, or_false] at codes
  rcases args with _ | ⟨a, _ | ⟨b, rest⟩⟩
  · rcases codes with rfl | rfl | rfl | rfl | rfl | rfl <;> rfl
  · exact absurd (by simp) h
  · rcases codes with rfl | rfl | rfl | rfl | rfl | rfl <;> rfl

/-- Other than two arguments where there should be two. -/
theorem refuses_two (codes : code ∈ [0x05, 0x07, 0x0E, 0x13, 0x18]) (h : args.length ∉ [2]) :
    Refuses (commandFor m seq code args) u := by
  simp only [List.mem_cons, List.not_mem_nil, or_false] at codes
  rcases args with _ | ⟨a, _ | ⟨b, _ | ⟨c, rest⟩⟩⟩
  · rcases codes with rfl | rfl | rfl | rfl | rfl <;> rfl
  · rcases codes with rfl | rfl | rfl | rfl | rfl <;> rfl
  · exact absurd (by simp) h
  · rcases codes with rfl | rfl | rfl | rfl | rfl <;> rfl

/-- Other than three arguments where there should be three. -/
theorem refuses_three (codes : code ∈ [0x14, 0x19, 0x1A]) (h : args.length ∉ [3]) :
    Refuses (commandFor m seq code args) u := by
  simp only [List.mem_cons, List.not_mem_nil, or_false] at codes
  rcases args with _ | ⟨a, _ | ⟨b, _ | ⟨c, _ | ⟨d, rest⟩⟩⟩⟩
  · rcases codes with rfl | rfl | rfl <;> rfl
  · rcases codes with rfl | rfl | rfl <;> rfl
  · rcases codes with rfl | rfl | rfl <;> rfl
  · exact absurd (by simp) h
  · rcases codes with rfl | rfl | rfl <;> rfl

theorem cancelTag_length (h : args.length ∉ [4]) : Refuses (cancelTagCommand args) u := by
  unfold Refuses cancelTagCommand ownerCommand
  dsimp only
  split
  · exact absurd (by simp) h
  · rfl

theorem readRecord_length (h : args.length ∉ [3, 6]) : Refuses (readRecordCommand args) u := by
  unfold Refuses readRecordCommand openCommand
  dsimp only
  split
  · exact absurd (by simp) h
  · exact absurd (by simp) h
  · rfl

theorem writeEntry_length (h : args.length ∉ [13]) : Refuses (writeEntryCommand args) u := by
  unfold Refuses writeEntryCommand ownerCommand
  dsimp only
  split
  · exact if_pos (by simpa using h)
  · rfl

theorem writeMasksDefaults_length (h : args.length ∉ [15]) : Refuses (writeMasksDefaultsCommand args) u :=
  if_pos (by simpa using h)

theorem setTrip_length (h : args.length ∉ [15]) : Refuses (setTripCommand args) u :=
  if_pos (by simpa using h)

/-- The commands by the number of their arguments, LOAD_PART left out. -/
theorem code_cases (low : 1 ≤ code.toNat) (high : code.toNat ≤ 28) (other : code ≠ 0x0D) :
    code ∈ [0x01, 0x03, 0x0A, 0x0B, 0x10, 0x17, 0x1B, 0x1C] ∨ code ∈ [0x02, 0x04, 0x06, 0x0C, 0x11, 0x15] ∨
      code ∈ [0x05, 0x07, 0x0E, 0x13, 0x18] ∨ code ∈ [0x14, 0x19, 0x1A] ∨
      code ∈ [0x12, 0x08, 0x09, 0x16, 0x0F] := by
  have is := CommandRows.eq_of_toNat (c := code) rfl
  interval_cases code.toNat <;> subst is <;> simp_all

/-- Every known command but LOAD_PART refuses a length that Table 12-3 does not give it. -/
theorem refuses_length (low : 1 ≤ code.toNat) (high : code.toNat ≤ 28) (other : code ≠ 0x0D)
    (h : args.length ∉ argLengths code) : Refuses (commandFor m seq code args) u := by
  have zero : ∀ c ∈ ([0x01, 0x03, 0x0A, 0x0B, 0x10, 0x17, 0x1B, 0x1C] : List Byte), argLengths c = [0] := by decide
  have one : ∀ c ∈ ([0x02, 0x04, 0x06, 0x0C, 0x11, 0x15] : List Byte), argLengths c = [1] := by decide
  have two : ∀ c ∈ ([0x05, 0x07, 0x0E, 0x13, 0x18] : List Byte), argLengths c = [2] := by decide
  have three : ∀ c ∈ ([0x14, 0x19, 0x1A] : List Byte), argLengths c = [3] := by decide
  rcases code_cases low high other with c | c | c | c | c
  · exact refuses_noArguments c (zero code c ▸ h)
  · exact refuses_one c (one code c ▸ h)
  · exact refuses_two c (two code c ▸ h)
  · exact refuses_three c (three code c ▸ h)
  · simp only [List.mem_cons, List.not_mem_nil, or_false] at c
    rcases c with rfl | rfl | rfl | rfl | rfl
    · exact cancelTag_length h
    · exact writeEntry_length h
    · exact writeMasksDefaults_length h
    · exact setTrip_length h
    · exact readRecord_length h

/-- LOAD_PART without an item: its part number is the one given, or free (R165, log entry 2). -/
theorem loadPart_short (h : args.length < 2) :
    ∃ n part, (∀ b ∈ args.head?, part = b) ∧
      (loadPartCommand args).run u =
        ({ u with free := n }, ⟨.badArgument, [part, u.banks.shadowState.expectedByte]⟩) := by
  rcases args with _ | ⟨b, _ | ⟨c, rest⟩⟩
  · exact ⟨_, _, nofun, rfl⟩
  · exact ⟨u.free, b, by simp, rfl⟩
  · simp at h

/-! ## What codes and indices name -/

theorem ne_of_lt {b c : Byte} (h : c.toNat < b.toNat) : b ≠ c := by
  rintro rfl; exact lt_irrefl _ h

/-- Three bytes name a tag only without a bit above bit 19 (R194). -/
theorem argTag_some {h md l : Byte} {t : Tag} (e : argTag h md l = some t) : h.extractLsb' 4 4 = 0 := by
  unfold argTag at e
  split at e
  · assumption
  · cases e

theorem sideCode_some {b : Byte} {side : Side} (e : Side.ofCode b = some side) : b.toNat ≤ 1 := by
  unfold Side.ofCode at e
  split at e
  · next h => subst h; decide
  · split at e
    · next h => subst h; decide
    · cases e

theorem passDrop_some {b : Byte} {p : PassDrop} (e : PassDrop.ofCode b = some p) : b.toNat ≤ 1 := by
  unfold PassDrop.ofCode at e
  split at e
  · next h => subst h; decide
  · split at e
    · next h => subst h; decide
    · cases e

theorem matchMode_some {c : BitVec 3} {x : MatchMode} (e : MatchMode.ofCode c = some x) : c.toNat < 6 := by
  have all : ∀ c : BitVec 3, (MatchMode.ofCode c).isSome = true → c.toNat < 6 := by decide
  exact all c (by simp [e])

theorem classSetting_some {c : BitVec 3} {x : Option FClass} (e : classSettingOfCode c = some x) : c.toNat < 5 := by
  have all : ∀ c : BitVec 3, (classSettingOfCode c).isSome = true → c.toNat < 5 := by decide
  exact all c (by simp [e])

theorem tripField_some {c : BitVec 3} {x : Option (Fin 4)} (e : tripFieldOfCode c = some x) : c.toNat < 5 := by
  have all : ∀ c : BitVec 3, (tripFieldOfCode c).isSome = true → c.toNat < 5 := by decide
  exact all c (by simp [e])

theorem entryIndex_some {b : Byte} {i : Fin 64} (e : entryIndex b = some i) : b.toNat < 64 := by
  unfold entryIndex at e
  split at e
  · assumption
  · cases e

theorem recordNumber_some {b : Byte} {i : Fin 48} (e : recordNumber b = some i) : b.toNat < 48 := by
  unfold recordNumber at e
  split at e
  · assumption
  · cases e

theorem paramId_some {b : Byte} {i : ParamId} (e : ParamId.ofCode b = some i) : b.toNat ≤ 19 := by
  unfold ParamId.ofCode at e
  split at e
  case h_21 => cases e
  all_goals omega

theorem group_some {b : Byte} {g : Group} (e : Group.ofCode b = some g) : b = g.code := by
  unfold Group.ofCode at e
  repeat' split at e
  all_goals cases e
  all_goals assumption

theorem group_code_le (g : Group) : g.code.toNat ≤ 3 := by cases g <;> decide

/-! ## Values -/

theorem openSession_zero : Refuses (openSessionCommand m seq [0]) u := rfl

theorem status_value {b : Byte} (h : 3 < b.toNat) : Refuses (statusCommand m [b]) u := by
  have none_of {c : Byte} (le : c.toNat ≤ 3) : b ≠ c := ne_of_lt (lt_of_le_of_lt le h)
  unfold Refuses statusCommand openCommand
  dsimp only
  rw [if_neg (none_of (by decide)), if_neg (none_of (by decide)), if_neg (none_of (by decide)),
    if_neg (none_of (by decide))]

theorem clearCounters_value {b : Byte} (h : 12 < b.toNat) (all : b ≠ 0xFF) : Refuses (clearCountersCommand [b]) u := by
  unfold Refuses clearCountersCommand ownerCommand
  dsimp only
  rw [if_neg all, if_neg (by omega)]

theorem readQueries_value {b : Byte} (h : 15 < b.toNat) : Refuses (readQueriesCommand [b]) u := if_pos h

theorem readConfig_value {b : Byte} (h : 19 < b.toNat) (trip : b ≠ 0xFF) : Refuses (readConfigCommand [b]) u := by
  unfold Refuses readConfigCommand openCommand
  dsimp only
  rw [if_neg trip]
  split
  · next e => exact absurd (paramId_some e) (by omega)
  · rfl

theorem loadBegin_value {b : Byte} (shadow : u.banks.shadowState.isLoading = false) (h : b = 0 ∨ 65 < b.toNat) :
    Refuses (loadBeginCommand [b]) u := by
  have wrong : b.toNat < 1 ∨ 65 < b.toNat := h.imp (fun e => by subst e; decide) id
  unfold Refuses loadBeginCommand ownerCommand
  dsimp only
  unfold runLoadBegin
  cases e : u.banks.shadowState with
  | loading t => rw [e] at shadow; cases shadow
  | clean => exact if_pos wrong
  | incomplete => exact if_pos wrong

theorem sideControl_value {b action : Byte} (h : 1 < b.toNat) : Refuses (sideControlCommand [b, action]) u := by
  unfold Refuses sideControlCommand ownerCommand
  dsimp only
  split
  · next e _ => exact absurd (sideCode_some e) (by omega)
  · rfl

/-- The delivery of a message counts, but leaves every counter set as long as it is. -/
theorem counterSet_delivered {b : Byte} {n : Nat} (h : ∀ cs ∈ s.counterSet b, cs.length ≤ n) :
    ∀ cs ∈ (s.delivered m).counterSet b, cs.length ≤ n := by
  have same : ((s.delivered m).counterSet b).map List.length = (s.counterSet b).map List.length := by
    unfold State.counterSet
    split <;> rfl
  intro cs mem
  rw [Option.mem_def.1 mem, Option.map_some, eq_comm, Option.map_eq_some_iff] at same
  obtain ⟨old, is, len⟩ := same
  exact len ▸ h old is

theorem readCounters_value {b c : Byte} (h : ∀ cs ∈ u.counterSet b, cs.length ≤ c.toNat) :
    Refuses (readCountersCommand [b, c]) u := by
  unfold Refuses readCountersCommand openCommand
  dsimp only
  split
  · next cs e => exact if_neg (Nat.not_lt.2 (h cs e))
  · rfl

theorem readEntry_value {b c : Byte} (h : 1 < b.toNat ∨ 63 < c.toNat ∧ c ≠ 0xFF) :
    Refuses (readEntryCommand [b, c]) u := by
  unfold Refuses readEntryCommand openCommand
  dsimp only
  split
  · rfl
  · next bank e =>
    rcases h with h | ⟨h, header⟩
    · have no_bank : u.banks.ofCode b = none := by
        unfold Banks.ofCode
        rw [if_neg (ne_of_lt (lt_of_le_of_lt (by decide) h)), if_neg (ne_of_lt (lt_of_le_of_lt (by decide) h))]
      rw [no_bank] at e; cases e
    · rw [if_neg header]
      split
      · next i => exact absurd (entryIndex_some i) (by omega)
      · rfl

theorem readEvents_value {b c : Byte} (h : 4 < b.toNat ∨ b = 4 ∧ 7 < c.toNat) :
    Refuses (readEventsCommand [b, c]) u := by
  unfold Refuses readEventsCommand openCommand
  dsimp only
  split
  · next g e =>
    have le := group_code_le g
    rw [← group_some e] at le
    rcases h with h | ⟨rfl, -⟩
    · omega
    · exact absurd le (by decide)
  · refine if_neg ?_
    rintro ⟨rfl, le⟩
    rcases h with h | ⟨-, h⟩
    · exact absurd h (by decide)
    · omega

/-! ## Entries, headers and trip configurations -/

/-- The fields that an entry's 12 bytes must hold (R120, R194). -/
theorem entry_some {body : Payload} {e : Entry} (h : Entry.ofBytes body = some e) :
    ((body.getD 0 0).extractLsb' 0 3).toNat < 6 ∧ ((body.getD 1 0).extractLsb' 2 3).toNat < 5 ∧
      (body.getD 2 0).getLsbD 7 = false ∧ ((body.getD 2 0).extractLsb' 4 3).toNat < 5 ∧
      (body.getD 5 0).extractLsb' 4 4 = 0 := by
  unfold Entry.ofBytes at h
  split at h
  · split at h
    · next mode setClass trip tag =>
      split at h
      · cases h
      · next unused =>
        exact ⟨matchMode_some mode, classSetting_some setClass, Bool.eq_false_iff.2 unused, tripField_some trip,
          argTag_some tag⟩
    · cases h
  · cases h

/-- The fields that a header's 15 bytes must hold (R121). -/
theorem header_some {h : BankHeader} (e : BankHeader.ofBytes args = some h) :
    (∀ k : Fin 4, (args.getD (3 * k.val) 0).extractLsb' 4 4 = 0) ∧ (args.getD 12 0).toNat ≤ 1 ∧
      (args.getD 13 0).toNat ≤ 1 ∧ (args.getD 14 0).toNat ≤ 1 := by
  unfold BankHeader.ofBytes at e
  split at e
  · split at e
    · next m0 m1 m2 m3 =>
      split at e
      · next da db mp =>
        refine ⟨fun k => ?_, passDrop_some da, passDrop_some db, passDrop_some mp⟩
        match k with
        | 0 => exact argTag_some m0
        | 1 => exact argTag_some m1
        | 2 => exact argTag_some m2
        | 3 => exact argTag_some m3
      · cases e
    · cases e
  · cases e

/-- A source's three bytes: undefined, or an offset up to 23 with a mask (R140). -/
theorem tripSource_some {o v mask : Byte} {x : Option TripSource} (e : TripSource.ofBytes o v mask = some x) :
    (o = 0xFF → x = none) ∧ (o ≠ 0xFF → o.toNat ≤ 23 ∧ mask ≠ 0) := by
  unfold TripSource.ofBytes at e
  split at e
  · next h => cases e; exact ⟨fun _ => rfl, fun ne => absurd h ne⟩
  · next h =>
    split at e
    · next ok => exact ⟨fun is => absurd is h, fun _ => ok⟩
    · cases e

/-- The fields that the 15 bytes of SET_TRIP must hold (R140). -/
theorem tripConfig_some {c : TripConfig} (e : TripConfig.ofBytes args = some c) :
    (∀ k : Fin 4, args.getD (3 * k.val) 0 ≠ 0xFF →
        (args.getD (3 * k.val) 0).toNat ≤ 23 ∧ args.getD (3 * k.val + 2) 0 ≠ 0) ∧
      (∀ k : Fin 4, args.getD (3 * k.val) 0 = 0xFF → (args.getD 12 0).getLsbD k.val = false) ∧
      (args.getD 12 0).extractLsb' 4 4 = 0 ∧ 1 ≤ (args.getD 13 0 ++ args.getD 14 0).toNat ∧
      (args.getD 13 0 ++ args.getD 14 0).toNat ≤ 10000 := by
  unfold TripConfig.ofBytes at e
  split at e
  · split at e
    · next required wh wl _ _ _ _ e0 e1 e2 e3 =>
      dsimp only at e
      split at e
      · next ok =>
        obtain ⟨high, coherent, low, top⟩ := ok
        refine ⟨fun k => ?_, fun k => ?_, high, low, top⟩
        · match k with
          | 0 => exact (tripSource_some e0).2
          | 1 => exact (tripSource_some e1).2
          | 2 => exact (tripSource_some e2).2
          | 3 => exact (tripSource_some e3).2
        · have named := List.all_eq_true.1 coherent k (List.mem_finRange k)
          rw [Bool.or_eq_true, Bool.not_eq_true', BitVec.getLsbD_extractLsb'] at named
          match k with
          | 0 => exact fun off => by simpa [(tripSource_some e0).1 off] using named
          | 1 => exact fun off => by simpa [(tripSource_some e1).1 off] using named
          | 2 => exact fun off => by simpa [(tripSource_some e2).1 off] using named
          | 3 => exact fun off => by simpa [(tripSource_some e3).1 off] using named
      · cases e
    · cases e
  · cases e

/-! ## Longer arguments -/

/-- WRITE_ENTRY of an entry or an index that is not admitted (R120). -/
theorem writeEntry_value (len : args.length = 13) (shadow : u.banks.shadowState = .clean)
    (h : 63 < (args.getD 0 0).toNat ∨ 6 ≤ ((args.getD 1 0).extractLsb' 0 3).toNat ∨
      5 ≤ ((args.getD 2 0).extractLsb' 2 3).toNat ∨ (args.getD 3 0).getLsbD 7 = true ∨
      5 ≤ ((args.getD 3 0).extractLsb' 4 3).toNat ∨ (args.getD 6 0).extractLsb' 4 4 ≠ 0) :
    Refuses (writeEntryCommand args) u := by
  obtain ⟨index, body, rfl⟩ : ∃ a rest, args = a :: rest := List.exists_cons_of_ne_nil (by rintro rfl; cases len)
  have twelve : ¬body.length ≠ 12 := by simpa using len
  unfold Refuses writeEntryCommand ownerCommand
  dsimp only
  rw [if_neg twelve]
  unfold inClean
  rw [shadow]
  dsimp only [ShadowState.refusesEdit]
  split
  · next i e hi he =>
    exfalso
    obtain ⟨mode, setClass, unused, trip, tag⟩ := entry_some he
    rcases h with h | h | h | h | h | h
    · exact absurd (entryIndex_some hi) (Nat.not_lt.2 h)
    · exact absurd mode (Nat.not_lt.2 h)
    · exact absurd setClass (Nat.not_lt.2 h)
    · exact absurd (h.symm.trans unused) (by decide)
    · exact absurd trip (Nat.not_lt.2 h)
    · exact h tag
  · rfl

/-- WRITE_MASKS_DEFAULTS of a header that is not admitted (R121). -/
theorem writeMasksDefaults_value (len : args.length = 15) (shadow : u.banks.shadowState = .clean)
    (h : (∃ k : Fin 4, (args.getD (3 * k.val) 0).extractLsb' 4 4 ≠ 0) ∨ 1 < (args.getD 12 0).toNat ∨
      1 < (args.getD 13 0).toNat ∨ 1 < (args.getD 14 0).toNat) :
    Refuses (writeMasksDefaultsCommand args) u := by
  unfold Refuses writeMasksDefaultsCommand ownerCommand
  dsimp only
  rw [if_neg (by simpa using len)]
  unfold inClean
  rw [shadow]
  dsimp only [ShadowState.refusesEdit]
  split
  · next header e =>
    exfalso
    obtain ⟨masks, a, b, mgmt⟩ := header_some e
    rcases h with ⟨k, h⟩ | h | h | h
    · exact h (masks k)
    all_goals omega
  · rfl

/-- READ_RECORD of a page, a form, a number or a key that is not admitted (R49). -/
theorem readRecord_value
    (h : 4 < (args.getD 0 0).toNat ∨ 1 < (args.getD 1 0).toNat ∨
      args.getD 1 0 = 0 ∧ (args.length = 6 ∨ 47 < (args.getD 2 0).toNat) ∨
      args.getD 1 0 = 1 ∧
        (args.length = 3 ∨ 1 < (args.getD 2 0).toNat ∨ (args.getD 3 0).extractLsb' 4 4 ≠ 0)) :
    Refuses (readRecordCommand args) u := by
  unfold Refuses readRecordCommand openCommand
  dsimp only
  split
  · next page form number =>
    split
    · next ok =>
      obtain ⟨rfl, small⟩ := ok
      split
      · next i e =>
        exfalso
        rcases h with h | h | ⟨-, h | h⟩ | ⟨h, -⟩
        · exact absurd small (Nat.not_le.2 h)
        · exact absurd h (show ¬1 < (0 : Byte).toNat by decide)
        · cases h
        · exact absurd (recordNumber_some e) (Nat.not_lt.2 h)
        · exact absurd h (show (0 : Byte) ≠ 1 by decide)
      · rfl
    · rfl
  · next page form side hi md lo =>
    split
    · next ok =>
      obtain ⟨rfl, small⟩ := ok
      split
      · next origin tag he ht =>
        exfalso
        rcases h with h | h | ⟨h, -⟩ | ⟨-, h | h | h⟩
        · exact absurd small (Nat.not_le.2 h)
        · exact absurd h (show ¬1 < (1 : Byte).toNat by decide)
        · exact absurd h (show (1 : Byte) ≠ 0 by decide)
        · cases h
        · exact absurd (sideCode_some he) (Nat.not_le.2 h)
        · exact h (argTag_some ht)
      · rfl
    · rfl
  · rfl

/-- CANCEL_TAG of a tag or a choice of sides that is not admitted (R86). -/
theorem cancelTag_value (h : (args.getD 0 0).extractLsb' 4 4 ≠ 0 ∨ 2 < (args.getD 3 0).toNat) :
    Refuses (cancelTagCommand args) u := by
  unfold Refuses cancelTagCommand ownerCommand
  dsimp only
  split
  · next hi md lo sides =>
    split
    · next t e =>
      rcases h with h | h
      · exact absurd (argTag_some e) h
      · have none_of {c : Byte} (le : c.toNat ≤ 2) : sides ≠ c := ne_of_lt (lt_of_le_of_lt le h)
        unfold State.cancelTag
        rw [if_neg (none_of (by decide)), if_neg (none_of (by decide)), if_neg (none_of (by decide))]
    · rfl
  · rfl

/-- SET_CONFIG of an identifier or a value that is not admitted (R156). -/
theorem setConfig_value
    (h : 19 < (args.getD 0 0).toNat ∨ ∃ p, ParamId.ofCode (args.getD 0 0) = some p ∧
      ((args.getD 1 0 ++ args.getD 2 0).toNat < p.range.1 ∨ p.range.2 < (args.getD 1 0 ++ args.getD 2 0).toNat)) :
    Refuses (setConfigCommand args) u := by
  unfold Refuses setConfigCommand ownerCommand
  dsimp only
  split
  · next item vh vl =>
    split
    · rfl
    · next i e =>
      refine if_pos ?_
      rcases h with h | ⟨p, hp, h⟩
      · exact absurd (paramId_some e) (Nat.not_le.2 h)
      · have same : i = p := Option.some.inj (e.symm.trans hp)
        subst same
        change (vh ++ vl).toNat < _ ∨ _ < (vh ++ vl).toNat at h
        simp only [ParamId.admits, Bool.not_eq_true', Bool.and_eq_false_iff, decide_eq_false_iff_not]
        omega
  · rfl

/-- SET_TRIP of a configuration that is not admitted (R140). -/
theorem setTrip_value (len : args.length = 15) (state : u.trip.state ≠ .tripped)
    (h : (∃ k : Fin 4, args.getD (3 * k.val) 0 ≠ 0xFF ∧
        (23 < (args.getD (3 * k.val) 0).toNat ∨ args.getD (3 * k.val + 2) 0 = 0)) ∨
      (∃ k : Fin 4, args.getD (3 * k.val) 0 = 0xFF ∧ (args.getD 12 0).getLsbD k.val = true) ∨
      (args.getD 12 0).extractLsb' 4 4 ≠ 0 ∨ (args.getD 13 0 ++ args.getD 14 0).toNat < 1 ∨
      10000 < (args.getD 13 0 ++ args.getD 14 0).toNat) :
    Refuses (setTripCommand args) u := by
  unfold Refuses setTripCommand ownerCommand
  dsimp only
  rw [if_neg (by simpa using len)]
  unfold runSetTrip
  rw [if_neg state]
  split
  · rfl
  · next c e =>
    exfalso
    obtain ⟨sources, required, high, low, top⟩ := tripConfig_some e
    rcases h with ⟨k, on, h⟩ | ⟨k, off, h⟩ | h | h | h
    · obtain ⟨offset, mask⟩ := sources k on
      exact h.elim (Nat.not_lt.2 offset) mask
    · rw [required k off] at h; cases h
    · exact h high
    · omega
    · omega

/-- CLEAR_EVENTS and ENABLE_EVENTS of a group or of flags that are not admitted (R176, R177). -/
theorem groupArgs_value
    (h : 3 < (args.getD 0 0).toNat ∨ ∃ g : Group, args.getD 0 0 = g.code ∧
      (args.getD 1 0 ++ args.getD 2 0) &&& ~~~(Events.allFlags.get g) ≠ 0) :
    groupArgs args = none := by
  unfold groupArgs
  split
  · next code hi lo =>
    split
    · next g e =>
      have is := group_some e
      rcases h with h | ⟨g', hg, h⟩
      · exact absurd (is ▸ group_code_le g) (Nat.not_le.2 h)
      · have same : g = g' := by
          have codes : g.code = g'.code := is.symm.trans hg
          revert codes; cases g <;> cases g' <;> decide
        subst same
        rw [show flagSet g hi lo = none from if_neg h]
        rfl
    · rfl
  · rfl

theorem clearEvents_value (h : groupArgs args = none) : Refuses (clearEventsCommand args) u := by
  unfold Refuses clearEventsCommand ownerCommand
  simp only [h]

theorem enableEvents_value (h : groupArgs args = none) : Refuses (enableEventsCommand args) u := by
  unfold Refuses enableEventsCommand ownerCommand
  simp only [h]

/-! ## The answers -/

/-- A command that its rule refuses is answered BAD_ARGUMENT, and nothing else happens. -/
theorem exec_refused (h : Ready s m seq code) {i : Instr} (w : i.wellFormed = true)
    (c : i.command = some (m, seq, code)) (r : Refuses (commandFor m seq code i.args) (s.delivered m)) :
    exec i s = .next ((s.delivered m).answeredBy m ⟨seq, code, .badArgument, []⟩) :=
  exec_same h i w c _ rfl r

/-- Settles O45: lengths and values by the laws of the commands above. -/
theorem wrongArgumentsAreRefused : Obligations.WrongArgumentsAreRefused := by
  unfold Obligations.WrongArgumentsAreRefused
  intro i m seq code s w c hears quiet room new owner
  have ready : Ready s m seq code := ⟨hears, quiet, room, new, owner⟩
  refine ⟨?_, ?_, ?_, ?_⟩
  · intro low high other h
    exact exec_refused ready w c (refuses_length low high other h)
  · rintro rfl h
    obtain ⟨n, part, given, run⟩ := loadPart_short (u := s.delivered m) h
    exact ⟨n, part, given, exec_free ready i w c (loadPartCommand i.args) rfl run⟩
  · intro b h
    refine exec_refused ready w c ?_
    rcases h with ⟨rfl, rfl⟩ | ⟨rfl, h⟩ | ⟨rfl, h, all⟩ | ⟨rfl, h⟩ | ⟨rfl, h, trip⟩ | ⟨rfl, shadow, h⟩ |
      ⟨rfl | rfl | rfl, h⟩ | ⟨b2, ⟨rfl, h⟩ | ⟨rfl, h⟩ | ⟨rfl, h⟩⟩ <;> cases c
    · exact openSession_zero
    · exact status_value h
    · exact clearCounters_value h all
    · exact readQueries_value h
    · exact readConfig_value h trip
    · exact loadBegin_value shadow h
    · exact sideControl_value h
    · exact sideControl_value h
    · exact sideControl_value h
    · exact readCounters_value (counterSet_delivered h)
    · exact readEntry_value h
    · exact readEvents_value h
  · intro args arg is len h
    obtain rfl : arg = fun n => args.getD n 0 := funext is
    refine exec_refused ready w c ?_
    rcases h with ⟨rfl, shadow, h⟩ | ⟨rfl, shadow, h⟩ | ⟨rfl, h⟩ | ⟨rfl, h⟩ | ⟨rfl, h⟩ | ⟨rfl, state, h⟩ |
      ⟨rfl | rfl, h⟩ <;> cases c
    · exact writeEntry_value (List.mem_singleton.1 len) shadow h
    · exact writeMasksDefaults_value (List.mem_singleton.1 len) shadow h
    · exact readRecord_value h
    · exact cancelTag_value h
    · exact setConfig_value h
    · exact setTrip_value (List.mem_singleton.1 len) state h
    · exact clearEvents_value (groupArgs_value h)
    · exact enableEvents_value (groupArgs_value h)

end Sys2Proof.Machine.ArgumentLaws
end

section
/-! The queues as lists (spec/04): the place of an admitted frame (R72), the frame that is displaced (R76), what
admission decides, and what thins a queue out. -/

namespace Sys2Proof.Machine.QueueLaws

/-! ## The place of an admitted frame (R72) -/

/-- Settles O22, by induction on the queue: the frame passes over each of its class or higher, and in an ordered queue
every frame behind the first of lower class is of lower class too. -/
theorem admittedFramesStandByClass : Obligations.AdmittedFramesStandByClass := by
  unfold Obligations.AdmittedFramesStandByClass
  intro x q ordered
  induction q with
  | nil => exact ⟨[], [], rfl, rfl, by simp, by simp⟩
  | cons y ys ih =>
    obtain ⟨behind, rest⟩ := List.pairwise_cons.1 ordered
    by_cases c : x.frame.cls ≤ y.frame.cls
    · obtain ⟨pre, post, rfl, placed, high, low⟩ := ih rest
      refine ⟨y :: pre, post, rfl, by rw [insertFrame, if_pos c, placed]; rfl, ?_, low⟩
      exact List.forall_mem_cons.2 ⟨c, high⟩
    · have lower : y.frame.cls < x.frame.cls := BitVec.not_le.1 c
      refine ⟨[], y :: ys, rfl, by rw [insertFrame, if_neg c]; rfl, by simp, ?_⟩
      exact List.forall_mem_cons.2 ⟨lower, fun z hz => BitVec.lt_def.2 (Nat.lt_of_le_of_lt (behind z hz) lower)⟩

/-- A frame admitted to an ordered queue leaves it ordered (R72). -/
theorem insertFrame_ordered (x : QFrame) {q : List QFrame} (h : Ordered q) : Ordered (insertFrame x q) := by
  obtain ⟨pre, post, rfl, placed, high, low⟩ := admittedFramesStandByClass x q h
  obtain ⟨front, back, across⟩ := List.pairwise_append.1 h
  rw [placed]
  refine List.pairwise_append.2 ⟨front, List.pairwise_cons.2 ⟨fun y hy => BitVec.le_of_lt (low y hy), back⟩, ?_⟩
  exact fun y hy => List.forall_mem_cons.2 ⟨high y hy, across y hy⟩

/-! ## The frame that is displaced (R76) -/

variable {c k : FClass} {q pre post : List QFrame} {x y : QFrame}

/-- No frame can be displaced just when every frame of lower class is on the line. -/
theorem displaceable_none : displaceable c q = none ↔ ∀ y ∈ q, y.frame.cls < c → y.onLine = true := by
  unfold displaceable
  rw [List.findSome?_eq_none_iff]
  constructor
  · intro h y hy lower
    have searched := h y.frame.cls.toNat (List.mem_range.2 (BitVec.lt_def.1 lower))
    rw [BitVec.ofNat_toNat, BitVec.setWidth_eq] at searched
    exact newestOffLine_none.1 searched y hy rfl
  · intro h n hn
    have small := List.mem_range.1 hn
    refine newestOffLine_none.2 fun y hy e => h y hy ?_
    have := c.isLt
    rw [e, BitVec.lt_def, BitVec.toNat_ofNat, Nat.mod_eq_of_lt (by omega)]
    exact small

/-- The last waiting frame of a class is the one found for it. -/
theorem newestOffLine_last (waits : y.onLine = false)
    (last : ∀ z ∈ post, z.onLine = false → z.frame.cls ≠ y.frame.cls) :
    newestOffLine y.frame.cls (pre ++ y :: post) = some pre.length := by
  have behind : newestOffLine y.frame.cls post = none := newestOffLine_none.2 fun z hz e => by
    cases o : z.onLine with
    | true => rfl
    | false => exact absurd e (last z hz o)
  induction pre with
  | nil => simp [newestOffLine, behind, waits]
  | cons z zs ih => simp [newestOffLine, ih]

/-- A search of the numbers from 0 upward stops at the first that answers. -/
theorem findSome?_range {α : Type} {f : Nat → Option α} {n m : Nat} {a : α} (h : n < m)
    (below : ∀ k < n, f k = none)
    (found : f n = some a) : (List.range m).findSome? f = some a := by
  induction m with
  | zero => exact absurd h (Nat.not_lt_zero n)
  | succ m ih =>
    rw [List.range_succ, List.findSome?_append]
    rcases Nat.lt_succ_iff_lt_or_eq.1 h with less | rfl
    · rw [ih less]; rfl
    · rw [List.findSome?_eq_none_iff.2 fun k hk => below k (List.mem_range.1 hk)]
      simp [found]

/-- The frame displaced is the last waiting one of the lowest class that waits below the arriving frame's (R76). -/
theorem displaceable_lowest (waits : y.onLine = false) (lower : y.frame.cls < c)
    (lowest : ∀ z ∈ pre ++ y :: post, z.onLine = false → y.frame.cls ≤ z.frame.cls)
    (last : ∀ z ∈ post, z.onLine = false → z.frame.cls ≠ y.frame.cls) :
    displaceable c (pre ++ y :: post) = some pre.length := by
  have below : ∀ n < y.frame.cls.toNat, newestOffLine (BitVec.ofNat 2 n) (pre ++ y :: post) = none := by
    intro n hn
    refine newestOffLine_none.2 fun z hz e => ?_
    cases o : z.onLine with
    | true => rfl
    | false =>
      have least := BitVec.le_def.1 (lowest z hz o)
      rw [e, BitVec.toNat_ofNat] at least
      exact absurd (Nat.le_trans least (Nat.mod_le n _)) (by omega)
  refine findSome?_range (BitVec.lt_def.1 lower) below ?_
  rw [BitVec.ofNat_toNat, BitVec.setWidth_eq, newestOffLine_last waits last]

/-! ## Admission (R75 to R77) -/

variable {s : State} {side : Side} {f : Frame}

/-- A frame that a side takes and the trip unit lets pass (Table 4-2, tests 1 and 2). -/
structure Passes (s : State) (side : Side) (f : Frame) : Prop where
  accepts : (s.ports.get side).state.accepts = true
  lets    : s.trip.state ≠ .tripped ∨ f.traffic = false

theorem Passes.not_isolated (h : Passes s side f) : ¬(s.trip.state = .tripped ∧ f.traffic = true) := by
  rintro ⟨tripped, traffic⟩
  rcases h.lets with t | t
  · exact t tripped
  · simp [t] at traffic

/-- A side that takes no frames refuses every frame. -/
theorem admit_notAccepting (h : (s.ports.get side).state.accepts = false) :
    s.admitFrame side f =
      (s.countQueue side fun c => { c with notAccepting := bump c.notAccepting }, .refused .notAccepting) := by
  unfold State.admitFrame
  rw [if_pos (by simp [h])]

/-- An isolated coupler refuses DATA and QUERY frames. -/
theorem admit_isolated (h : (s.ports.get side).state.accepts = true) (t : s.trip.state = .tripped)
    (traffic : f.traffic = true) :
    s.admitFrame side f =
      (s.countQueue side fun c => { c with isolatedRefused := bump c.isolatedRefused }, .refused .isolated) := by
  unfold State.admitFrame
  rw [if_neg (by simp [h]), if_pos ⟨t, traffic⟩]

/-- Without room a frame is queued in the place of the one it displaces, if there is one (R76). -/
theorem admit_displaces (h : Passes s side f) (full : s.roomToward side = false) {i : Nat}
    (found : displaceable f.cls (s.queues.frames.get side) = some i) :
    s.admitFrame side f =
      (((((s.onQueue side (·.eraseIdx i)).countQueue side fun c => { c with displaced := bump c.displaced }).enqueue
        side f).setFlag .displaced), .queued) := by
  unfold State.admitFrame
  rw [if_neg (by simp [h.accepts]), if_neg h.not_isolated, if_neg (by simp [full]), found]

/-- Without room and with none to displace a frame is refused, as the pool or the ceiling has it (R77). -/
theorem admit_full (h : Passes s side f) (full : s.roomToward side = false)
    (found : displaceable f.cls (s.queues.frames.get side) = none) :
    s.admitFrame side f =
      if s.queues.free = 0 then
        ((s.countQueue side fun c => { c with poolFull := bump c.poolFull }).setFlag .poolFull, .refused .poolFull)
      else (s.countQueue side fun c => { c with ceiling := bump c.ceiling }, .refused .ceiling) := by
  unfold State.admitFrame
  rw [if_neg (by simp [h.accepts]), if_neg h.not_isolated, if_neg (by simp [full]), found]

/-- No slot of the pool is free just when the two queues hold 48 frames (R70). -/
theorem free_eq_zero : s.queues.free = 0 ↔ 48 ≤ s.queues.frames.a.length + s.queues.frames.b.length :=
  Nat.sub_eq_zero_iff_le

/-- There is no room just when the queue is at its ceiling or the pool is full. -/
theorem roomToward_false : s.roomToward side = false ↔
    ¬((s.queues.frames.get side).length < s.agent.params.ceiling.get side ∧
      s.queues.frames.a.length + s.queues.frames.b.length < 48) := by
  rw [← Bool.not_eq_true, State.roomToward, Bool.and_eq_true, decide_eq_true_eq, decide_eq_true_eq, Queues.free,
    Nat.sub_pos_iff_lt]
  rfl

/-- A frame erased, another queued in its place: the two counts and the queue at once. -/
theorem enqueue_erased (split : s.queues.frames.get side = pre ++ y :: post) :
    ((s.onQueue side (·.eraseIdx pre.length)).countQueue side fun c =>
        { c with displaced := bump c.displaced }).enqueue side f =
      (s.onQueue side fun _ => insertFrame (f.queuedAt s.agent.params s.now) (pre ++ post)).countQueue side fun c =>
        { c with displaced := bump c.displaced, admitted := bump c.admitted } := by
  have erased : (s.queues.frames.get side).eraseIdx pre.length = pre ++ post := by
    rw [split, List.eraseIdx_append_of_length_le (Nat.le_refl _), Nat.sub_self]; rfl
  unfold State.enqueue
  simp only [State.onQueue, State.countQueue, PerSide.modify_modify]
  simp only [PerSide.modify, erased]

/-- Settles O21, test by test of Table 4-2. -/
theorem admissionDecides : Obligations.AdmissionDecides := by
  unfold Obligations.AdmissionDecides
  intro side f s
  refine ⟨admit_notAccepting, admit_isolated, fun accepts lets => ?_⟩
  have passes : Passes s side f := ⟨accepts, lets⟩
  refine ⟨fun room => ?_, fun full all => ⟨fun pool => ?_, fun pool => ?_⟩, ?_⟩
  · obtain ⟨below, slot⟩ := not_not.1 room
    exact State.admit_room ⟨accepts, below, slot⟩ lets
  · rw [admit_full passes (roomToward_false.2 full) (displaceable_none.2 all), if_pos (free_eq_zero.2 pool)]
  · rw [admit_full passes (roomToward_false.2 full) (displaceable_none.2 all),
      if_neg fun none_free => Nat.not_le.2 pool (free_eq_zero.1 none_free)]
  · intro full pre post y split waits lower lowest last
    have found : displaceable f.cls (s.queues.frames.get side) = some pre.length := by
      rw [split] at lowest ⊢
      exact displaceable_lowest waits lower lowest last
    rw [admit_displaces passes (roomToward_false.2 full) found, enqueue_erased split]
    rfl

end Sys2Proof.Machine.QueueLaws
end

section
/-! What the queue manager and the ports keep from step to step: the bounds and the order of the queues (R70, R72, R73)
and the agreement of each port with its queue (R78, R90, R104 to R107). Both read the queues, the ceilings and four
fields of each port, and so are followed together through every operation. -/

namespace Sys2Proof.Machine.EgressLaws

open QueueLaws

variable {s t u : State} {side : Side}

/-! ## The two invariants, side by side -/

/-- The pool, the ceilings and the order of the queues (R70, R72, R73). -/
def InBounds (s : State) : Prop := s.PoolOk ∧ s.OrderOk

/-- The bounds and the order, told from one side. -/
theorem inBounds_iff (side : Side) : InBounds s ↔
    (s.queues.frames.get side).length + (s.queues.frames.get side.far).length ≤ 48 ∧
      ((s.queues.frames.get side).length ≤ s.agent.params.ceiling.get side ∧ Ordered (s.queues.frames.get side)) ∧
      (s.queues.frames.get side.far).length ≤ s.agent.params.ceiling.get side.far ∧
      Ordered (s.queues.frames.get side.far) := by
  cases side <;> simp only [InBounds, State.PoolOk, State.OrderOk, BothSides, PerSide.get, Side.far, Config.poolSlots]
  · tauto
  · rw [Nat.add_comm]; tauto

/-- The agreement of ports and queues, told from one side. -/
theorem lineOk_iff (side : Side) : s.LineOk ↔
    (s.ports.get side).Agrees (s.queues.frames.get side) ∧
      (s.ports.get side.far).Agrees (s.queues.frames.get side.far) := by
  cases side
  · rfl
  · exact and_comm

/-- What `Port.Agrees` reads of a port. -/
def line (p : Port) : SideState × Nat × Option Attempt × Option CTime := (p.state, p.score, p.attempt, p.recovery)

theorem agrees_congr {p p' : Port} (e : line p' = line p) {q : List QFrame} (h : p.Agrees q) : p'.Agrees q := by
  simp only [line, Prod.mk.injEq] at e
  obtain ⟨state, score, attempt, recovery⟩ := e
  simpa only [Port.Agrees, state, score, attempt, recovery] using h

/-- What the two invariants read of a state. -/
def egress (s : State) :
    PerSide (List QFrame) × PerSide Nat × PerSide (SideState × Nat × Option Attempt × Option CTime) :=
  (s.queues.frames, s.agent.params.ceiling, ⟨line s.ports.a, line s.ports.b⟩)

/-- A change of state under which both invariants go on holding. -/
structure Upholds (s t : State) : Prop where
  bounds : InBounds s → InBounds t
  lines  : s.LineOk → t.LineOk

theorem Upholds.refl (s : State) : Upholds s s := ⟨id, id⟩

theorem Upholds.trans (h : Upholds s t) (k : Upholds t u) : Upholds s u :=
  ⟨k.bounds ∘ h.bounds, k.lines ∘ h.lines⟩

/-- What leaves the queues, the ceilings and the lines of the ports alone keeps the invariants. -/
theorem Upholds.same (e : egress t = egress s) : Upholds s t := by
  simp only [egress, Prod.mk.injEq, PerSide.mk.injEq] at e
  obtain ⟨frames, ceiling, onA, onB⟩ := e
  refine ⟨fun h => ?_, fun h => ?_⟩
  · simpa only [InBounds, State.PoolOk, State.OrderOk, frames, ceiling] using h
  · simp only [State.LineOk, BothSides, frames] at h ⊢
    exact ⟨agrees_congr onA h.1, agrees_congr onB h.2⟩

/-- A change of a port beside its line is no matter of the invariants. -/
theorem egress_onPort {f : Port → Port} (h : ∀ p, line (f p) = line p) : egress (s.onPort side f) = egress s := by
  cases side <;> simp [egress, State.onPort, PerSide.modify, PerSide.set, PerSide.get, h]

@[simp] theorem egress_countPort (f : PortCounters → PortCounters) : egress (s.countPort side f) = egress s :=
  egress_onPort fun _ => rfl

/-- A change at one side alone, whose queue keeps its classes but for those of frames that leave, keeps the bounds;
and it keeps the agreement where that side's port goes on agreeing. -/
theorem upholds_at (side : Side) (ceiling : t.agent.params.ceiling = s.agent.params.ceiling)
    (queue : t.queues.frames.get side.far = s.queues.frames.get side.far)
    (port : t.ports.get side.far = s.ports.get side.far)
    (classes : ((t.queues.frames.get side).map (·.frame.cls)).Sublist ((s.queues.frames.get side).map (·.frame.cls)))
    (agrees : (s.ports.get side).Agrees (s.queues.frames.get side) →
      (t.ports.get side).Agrees (t.queues.frames.get side)) : Upholds s t := by
  refine ⟨fun h => ?_, fun h => ?_⟩
  · rw [inBounds_iff side] at h ⊢
    obtain ⟨pool, ⟨below, ordered⟩, far⟩ := h
    have shorter : (t.queues.frames.get side).length ≤ (s.queues.frames.get side).length := by
      simpa using classes.length_le
    rw [ceiling, queue]
    refine ⟨by omega, ⟨by omega, ?_⟩, far⟩
    have falling : ((s.queues.frames.get side).map (·.frame.cls)).Pairwise fun x y => y ≤ x :=
      List.pairwise_map.2 ordered
    exact List.pairwise_map.1 (falling.sublist classes)
  · rw [lineOk_iff side] at h ⊢
    rw [queue, port]
    exact ⟨agrees h.1, h.2⟩

/-! ## Queues thinned out (R83 to R91) -/

/-- Waiting frames taken out of a queue, and frames changed other than in class and line. -/
structure Thins (q q' : List QFrame) : Prop where
  classes : (q'.map (·.frame.cls)).Sublist (q.map (·.frame.cls))
  onLine  : q'.countP (·.onLine) = q.countP (·.onLine)

/-- A port agrees with its queue thinned out. -/
theorem Thins.agrees {q q' : List QFrame} (h : Thins q q') {p : Port} (a : p.Agrees q) : p.Agrees q' := by
  obtain ⟨count, empty, fits, waits⟩ := a
  refine ⟨h.onLine.trans count, fun stopped => ?_, fits, waits⟩
  have none_left := h.classes
  rw [empty stopped] at none_left
  simpa using none_left

theorem Thins.upholds {f : List QFrame → List QFrame}
    (h : Thins (s.queues.frames.get side) (f (s.queues.frames.get side))) : Upholds s (s.onQueue side f) := by
  refine upholds_at side rfl (by simp) rfl ?_ fun a => ?_
  · simpa using h.classes
  · simpa using h.agrees a

theorem Thins.trans {q q' q'' : List QFrame} (h : Thins q q') (k : Thins q' q'') : Thins q q'' :=
  ⟨k.classes.trans h.classes, k.onLine.trans h.onLine⟩

/-- A waiting frame taken out. -/
theorem thins_eraseIdx {q : List QFrame} {i : Nat} {x : QFrame} (at_place : q[i]? = some x) (waits : x.onLine = false) :
    Thins q (q.eraseIdx i) := by
  refine ⟨(List.eraseIdx_sublist q i).map _, ?_⟩
  obtain ⟨lt, rfl⟩ := List.getElem?_eq_some_iff.1 at_place
  calc (q.eraseIdx i).countP (·.onLine)
      = (q.take i ++ q[i] :: q.drop (i + 1)).countP (·.onLine) := by
        rw [List.eraseIdx_eq_take_drop_succ, List.countP_append, List.countP_append,
          List.countP_cons_of_neg (by simp [waits])]
    _ = q.countP (·.onLine) := by rw [← List.drop_eq_getElem_cons lt, List.take_append_drop]

/-- Frames changed other than in class and line. -/
theorem thins_map (q : List QFrame) {g : QFrame → QFrame} (cls : ∀ x, (g x).frame.cls = x.frame.cls)
    (onLine : ∀ x, (g x).onLine = x.onLine) : Thins q (q.map g) := by
  refine ⟨?_, ?_⟩
  · simp [Function.comp_def, cls]
  · simp [List.countP_map, Function.comp_def, onLine]

/-- Waiting frames filtered out. -/
theorem thins_filter (q : List QFrame) {keep : QFrame → Bool} (h : ∀ x, x.onLine = true → keep x = true) :
    Thins q (q.filter keep) := by
  refine ⟨(List.filter_sublist).map _, ?_⟩
  rw [List.countP_filter, List.countP_congr fun x _ => ?_]
  simpa using h x

@[simp] theorem marked_frame (m : Mark) (x : QFrame) : (x.marked m).frame = x.frame := by
  unfold QFrame.marked
  split <;> rfl
@[simp] theorem marked_onLine (m : Mark) (x : QFrame) : (x.marked m).onLine = x.onLine := by
  unfold QFrame.marked; split <;> rfl

/-- A frame at a place marked (R85). -/
theorem thins_modify_marked (q : List QFrame) (i : Nat) (m : Mark) : Thins q (q.modify i (QFrame.marked m)) := by
  induction q generalizing i with
  | nil => cases i <;> exact ⟨.refl _, rfl⟩
  | cons x q ih =>
    cases i with
    | zero => exact ⟨by simp, by simp [List.countP_cons]⟩
    | succ i =>
      obtain ⟨classes, onLine⟩ := ih i
      exact ⟨by simpa using classes, by simpa [List.countP_cons] using onLine⟩

theorem upholds_removedUnder (s : State) (side : Side) (m : Mark) : Upholds s (s.removedUnder side m) := by
  cases m <;> exact .same rfl

/-- A frame expires (R83). -/
theorem upholds_expire (s : State) (side : Side) (place : Nat) : Upholds s (s.expire side place) := by
  unfold State.expire
  split
  · next x at_place =>
    split
    · exact (thins_modify_marked _ place .stale).upholds
    · next waits =>
      have thinner := thins_eraseIdx at_place (by simpa using waits)
      exact thinner.upholds.trans (upholds_removedUnder _ side .stale)
  · exact .refl s

theorem upholds_expireOverAge (s : State) (side : Side) (c : FClass) (n : Nat) :
    Upholds s (s.expireOverAge side c n) := by
  induction n generalizing s with
  | zero => exact .refl s
  | succ n ih =>
    unfold State.expireOverAge
    refine Upholds.trans ?_ (ih _)
    split
    · split
      · exact upholds_expire s side n
      · exact .refl s
    · exact .refl s

/-- A queue re-read under a new age limit (R84). -/
theorem upholds_rereadAge (s : State) (side : Side) (c : FClass) : Upholds s (s.rereadAge side c) := by
  have reread : Upholds s (s.onQueue side (·.map (QFrame.reread s.agent.params c))) :=
    (thins_map _ (fun x => by unfold QFrame.reread; split <;> rfl)
      fun x => by unfold QFrame.reread; split <;> rfl).upholds
  exact reread.trans (upholds_expireOverAge _ side c _)

/-- The trip purge of one queue (R91). -/
theorem upholds_tripPurge (s : State) (side : Side) : Upholds s (s.tripPurge side) := by
  have purged : Upholds s (s.onQueue side fun _ =>
      ((s.queues.frames.get side).filter fun x => !(x.frame.traffic && !x.onLine)).map fun x =>
        if x.frame.traffic then x.marked .isolated else x) :=
    ((thins_filter _ fun x h => by simp [h]).trans
      (thins_map _ (fun x => by split <;> simp) fun x => by split <;> simp)).upholds
  exact purged.trans (.same rfl)

/-- One queue searched for a tag (R86). -/
theorem upholds_cancelIn (s : State) (side : Side) (tag : Tag) : Upholds s (s.cancelIn side tag).1 := by
  have kept : Upholds s (s.onQueue side fun _ =>
      ((s.queues.frames.get side).filter fun x => !x.cancels tag).map fun x =>
        if x.cancelMarks tag then x.marked .cancelled else x) :=
    ((thins_filter _ fun x h => by simp [QFrame.cancels, h]).trans
      (thins_map _ (fun x => by split <;> simp) fun x => by split <;> simp)).upholds
  exact kept.trans (.same rfl)

/-! ## Admission and the end of an event -/

/-- A frame queued where there is room for it. -/
theorem enqueue_inBounds (h : InBounds s) (f : Frame)
    (below : (s.queues.frames.get side).length < s.agent.params.ceiling.get side)
    (slot : (s.queues.frames.get side).length + (s.queues.frames.get side.far).length < 48) :
    InBounds (s.enqueue side f) := by
  rw [inBounds_iff side] at h ⊢
  obtain ⟨-, ⟨-, ordered⟩, far⟩ := h
  have queue : (s.enqueue side f).queues.frames.get side =
      insertFrame (f.queuedAt s.agent.params s.now) (s.queues.frames.get side) := by simp [State.enqueue]
  have others : (s.enqueue side f).queues.frames.get side.far = s.queues.frames.get side.far := by simp [State.enqueue]
  rw [queue, others, insertFrame_length]
  exact ⟨by omega, ⟨below, insertFrame_ordered _ ordered⟩, far⟩

/-- A frame queued toward a side that takes it. -/
theorem enqueue_lineOk (h : s.LineOk) (f : Frame) (accepts : (s.ports.get side).state.accepts = true) :
    (s.enqueue side f).LineOk := by
  rw [lineOk_iff side] at h ⊢
  obtain ⟨⟨count, -, fits, waits⟩, far⟩ := h
  have queue : (s.enqueue side f).queues.frames.get side =
      insertFrame (f.queuedAt s.agent.params s.now) (s.queues.frames.get side) := by simp [State.enqueue]
  have others : (s.enqueue side f).queues.frames.get side.far = s.queues.frames.get side.far := by simp [State.enqueue]
  rw [queue, others]
  refine ⟨⟨(insertFrame_countP _ _ rfl).trans count, fun stopped => ?_, fits, waits⟩, far⟩
  exact absurd (accepts.symm.trans stopped) (by decide)

theorem frames_length (s : State) (side : Side) :
    s.queues.frames.a.length + s.queues.frames.b.length =
      (s.queues.frames.get side).length + (s.queues.frames.get side.far).length := by
  cases side
  · rfl
  · exact Nat.add_comm _ _

/-- A frame queued in the place of the one it displaces (R76). -/
theorem upholds_displace {f : Frame} {i : Nat} (accepts : (s.ports.get side).state.accepts = true)
    (found : displaceable f.cls (s.queues.frames.get side) = some i) :
    Upholds s ((((s.onQueue side (·.eraseIdx i)).countQueue side fun c =>
      { c with displaced := bump c.displaced }).enqueue side f).setFlag .displaced) := by
  obtain ⟨x, at_place, -, waits⟩ := displaceable_some found
  have inside := (List.getElem?_eq_some_iff.1 at_place).1
  set erased := (s.onQueue side (·.eraseIdx i)).countQueue side fun c => { c with displaced := bump c.displaced }
  have gone : Upholds s (s.onQueue side (·.eraseIdx i)) := (thins_eraseIdx at_place waits).upholds
  have thinned : Upholds s erased := gone.trans (.same rfl)
  have queue : (erased.queues.frames.get side).length = (s.queues.frames.get side).length - 1 := by
    simp [erased, List.length_eraseIdx, inside]
  have others : erased.queues.frames.get side.far = s.queues.frames.get side.far := by simp [erased]
  refine ⟨fun h => ?_, fun h => enqueue_lineOk (thinned.lines h) f accepts⟩
  refine enqueue_inBounds (thinned.bounds h) f ?_ ?_
  · obtain ⟨-, ⟨below, -⟩, -⟩ := (inBounds_iff side).1 h
    change (erased.queues.frames.get side).length < s.agent.params.ceiling.get side
    omega
  · obtain ⟨pool, -⟩ := (inBounds_iff side).1 h
    rw [others]
    omega

/-- Admission keeps the pool, the ceilings and the order, whatever it decides (R75 to R77). -/
theorem upholds_admit (s : State) (side : Side) (f : Frame) : Upholds s (s.admitFrame side f).1 := by
  cases accepts : (s.ports.get side).state.accepts with
  | false => rw [admit_notAccepting accepts]; exact .same rfl
  | true =>
    by_cases isolated : s.trip.state = .tripped ∧ f.traffic = true
    · rw [admit_isolated accepts isolated.1 isolated.2]; exact .same rfl
    · have lets : s.trip.state ≠ .tripped ∨ f.traffic = false := by
        rw [not_and_or, Bool.not_eq_true] at isolated; exact isolated
      cases room : s.roomToward side with
      | true =>
        simp only [State.roomToward, Bool.and_eq_true, decide_eq_true_eq] at room
        obtain ⟨below, free⟩ := room
        have slot : s.queues.frames.a.length + s.queues.frames.b.length < 48 := Nat.sub_pos_iff_lt.1 free
        rw [State.admit_room ⟨accepts, below, slot⟩ lets]
        exact ⟨fun h => enqueue_inBounds h f below (frames_length s side ▸ slot),
          fun h => enqueue_lineOk h f accepts⟩
      | false =>
        cases found : displaceable f.cls (s.queues.frames.get side) with
        | none =>
          rw [admit_full ⟨accepts, lets⟩ room found]
          split <;> exact .same rfl
        | some i =>
          rw [admit_displaces ⟨accepts, lets⟩ room found]
          exact upholds_displace accepts found

end Sys2Proof.Machine.EgressLaws
end

section
/-! The end of an attempt, stage by stage (R79 to R81, R101 to R106): the frame on the line, its fate, and the side
state tested against the new score. -/

namespace Sys2Proof.Machine.AttemptLaws

variable {s : State} {side : Side} {q pre post : List QFrame} {x : QFrame}

/-- `x` is the first frame on the line of the queue `pre ++ x :: post`. -/
structure OnLine (q pre : List QFrame) (x : QFrame) (post : List QFrame) : Prop where
  split  : q = pre ++ x :: post
  onLine : x.onLine = true
  before : ∀ y ∈ pre, y.onLine = false

/-- A queue has a first frame on the line, or none. -/
theorem onLine_or_none (q : List QFrame) :
    (∃ pre x post, OnLine q pre x post) ∨ ∀ y ∈ q, y.onLine = false := by
  induction q with
  | nil => exact .inr (by simp)
  | cons y ys ih =>
    cases o : y.onLine with
    | true => exact .inl ⟨[], y, ys, rfl, o, by simp⟩
    | false =>
      rcases ih with ⟨pre, x, post, split, onLine, before⟩ | rest
      · exact .inl ⟨y :: pre, x, post, by rw [split]; rfl, onLine, List.forall_mem_cons.2 ⟨o, before⟩⟩
      · exact .inr (List.forall_mem_cons.2 ⟨o, rest⟩)

theorem OnLine.at_place (h : OnLine q pre x post) : q[pre.length]? = some x := by simp [h.split]

theorem OnLine.erased (h : OnLine q pre x post) : q.eraseIdx pre.length = pre ++ post := by
  rw [h.split, List.eraseIdx_append_of_length_le (Nat.le_refl _), Nat.sub_self]; rfl

theorem OnLine.replaced (h : OnLine q pre x post) (y : QFrame) : q.set pre.length y = pre ++ y :: post := by
  rw [h.split, List.set_append_right _ _ (Nat.le_refl _), Nat.sub_self]; rfl

/-- The fate settled is that of the frame on the line. -/
theorem settleFate_onLine (h : OnLine (s.queues.frames.get side) pre x post) (o : LineOutcome) :
    s.settleFate side o = s.settleFrame side o pre.length x := by
  have found : (s.queues.frames.get side).findIdx? (·.onLine) = some pre.length := by
    have none_before : pre.findIdx? (·.onLine) = none := List.findIdx?_eq_none_iff.2 h.before
    rw [h.split, List.findIdx?_append, none_before]
    simp [List.findIdx?_cons, h.onLine]
  unfold State.settleFate
  simp only [found, h.at_place]

/-- With no frame on the line there is no fate to settle. -/
theorem settleFate_none (h : ∀ y ∈ s.queues.frames.get side, y.onLine = false) (o : LineOutcome) :
    s.settleFate side o = s := by
  unfold State.settleFate
  simp only [List.findIdx?_eq_none_iff.2 h]

theorem testSide_active (h : (s.ports.get side).state = .active) :
    s.testSide side =
      if 192 ≤ (s.ports.get side).score then s.enterSilent side
      else if 96 ≤ (s.ports.get side).score then s.enterWarned side
      else s := by
  simp only [State.testSide, h]; rfl

theorem testSide_warned (h : (s.ports.get side).state = .warned) :
    s.testSide side =
      if 192 ≤ (s.ports.get side).score then s.enterSilent side
      else if (s.ports.get side).score ≤ 64 then s.onPort side fun p => { p with state := .active }
      else s := by
  simp only [State.testSide, h]; rfl

/-- The side state tested against the score (R104 to R106): what each finding leads to. -/
theorem testSide_cases (s : State) (side : Side) :
    ((s.ports.get side).state.accepts = false ∧ s.testSide side = s) ∨
    ((s.ports.get side).state.accepts = true ∧ 192 ≤ (s.ports.get side).score ∧
      s.testSide side = s.enterSilent side) ∨
    ((s.ports.get side).state = .active ∧ 96 ≤ (s.ports.get side).score ∧ (s.ports.get side).score < 192 ∧
      s.testSide side = s.enterWarned side) ∨
    ((s.ports.get side).state = .warned ∧ (s.ports.get side).score ≤ 64 ∧
      s.testSide side = s.onPort side fun p => { p with state := .active }) ∨
    ((s.ports.get side).state.accepts = true ∧
      (s.ports.get side).state.fits (s.ports.get side).score ∧ s.testSide side = s) := by
  cases state : (s.ports.get side).state with
  | active =>
    rw [testSide_active state]
    split
    · next silent => exact .inr (.inl ⟨rfl, silent, rfl⟩)
    · next notSilent =>
      split
      · next warned => exact .inr (.inr (.inl ⟨rfl, warned, Nat.lt_of_not_le notSilent, rfl⟩))
      · next notWarned => exact .inr (.inr (.inr (.inr ⟨rfl, Nat.lt_of_not_le notWarned, rfl⟩)))
  | warned =>
    rw [testSide_warned state]
    split
    · next silent => exact .inr (.inl ⟨rfl, silent, rfl⟩)
    · next notSilent =>
      split
      · next low => exact .inr (.inr (.inr (.inl ⟨rfl, low, rfl⟩)))
      · next high =>
        exact .inr (.inr (.inr (.inr ⟨rfl, ⟨Nat.lt_of_not_le high, Nat.lt_of_not_le notSilent⟩, rfl⟩)))
  | silent => exact .inl ⟨rfl, by simp only [State.testSide, state]⟩
  | off => exact .inl ⟨rfl, by simp only [State.testSide, state]⟩

/-- A test of the side state touches nothing of the far side and no parameter, and its queue is left or emptied. -/
theorem testSide_keeps (s : State) (side : Side) :
    (s.testSide side).queues.frames.get side.far = s.queues.frames.get side.far ∧
      (s.testSide side).ports.get side.far = s.ports.get side.far ∧ (s.testSide side).agent = s.agent ∧
      ((s.testSide side).queues.frames.get side = s.queues.frames.get side ∨
        (s.testSide side).queues.frames.get side = []) := by
  rcases testSide_cases s side with
    ⟨-, e⟩ | ⟨-, -, e⟩ | ⟨-, -, -, e⟩ | ⟨-, -, e⟩ | ⟨-, -, e⟩ <;> rw [e]
  · exact ⟨rfl, rfl, rfl, .inl rfl⟩
  · exact ⟨by simp [State.enterSilent, State.purge], by simp [State.enterSilent, State.purge], rfl,
      .inr (by simp [State.enterSilent, State.purge])⟩
  · exact ⟨rfl, by simp [State.enterWarned], rfl, .inl rfl⟩
  · exact ⟨rfl, by simp, rfl, .inl rfl⟩
  · exact ⟨rfl, rfl, rfl, .inl rfl⟩

/-- An idle port with no frame on its line agrees with its queue once its side state is tested against its score. -/
theorem testSide_agrees {p : Port} (here : s.ports.get side = p) (accepts : p.state.accepts = true)
    (idle : p.attempt = none) (score : p.score ≤ 255) (still : p.recovery = none)
    (waits : (s.queues.frames.get side).countP (·.onLine) = 0) :
    ((s.testSide side).ports.get side).Agrees ((s.testSide side).queues.frames.get side) := by
  subst here
  rcases testSide_cases s side with
    ⟨stopped, e⟩ | ⟨-, silent, e⟩ | ⟨state, warned, low, e⟩ | ⟨state, low, e⟩ |
    ⟨-, fits, e⟩ <;> rw [e]
  · rw [accepts] at stopped; cases stopped
  · simp [State.enterSilent, State.purge, Port.Agrees, SideState.fits, Config.scoreSilent, Config.scoreTop, silent,
      score, idle]
  · simp [State.enterWarned, Port.Agrees, SideState.fits, SideState.accepts, Config.scoreSilent, Config.scoreActive,
      idle, still, waits]
    omega
  · simp [Port.Agrees, SideState.fits, SideState.accepts, Config.scoreWarned, idle, still, waits]
    omega
  · exact ⟨by rw [waits, idle]; rfl, fun stopped => absurd (accepts.symm.trans stopped) (by decide), fits,
      by simp [still]⟩

/-- A score goes up to 255 at most (R102). -/
theorem movedScore_le {score : Nat} (o : LineOutcome) (h : score ≤ 255) : movedScore score o ≤ 255 := by
  cases o
  · exact Nat.le_trans (Nat.sub_le score 1) h
  · exact h
  · exact Nat.min_le_right _ _
  · exact Nat.min_le_right _ _

@[simp] theorem removedUnder_frames (s : State) (side : Side) (m : Mark) :
    (s.removedUnder side m).queues.frames = s.queues.frames := by cases m <;> rfl

/-- A frame whose attempt has ended leaves its queue or goes back to waiting (Table 4-3). -/
theorem settleFrame_frames (s : State) (side : Side) (o : LineOutcome) (i : Nat) (x : QFrame) :
    (s.settleFrame side o i x).queues.frames = s.queues.frames.modify side (·.eraseIdx i) ∨
      ∃ n, (s.settleFrame side o i x).queues.frames =
        s.queues.frames.modify side (·.set i { x with attempts := n, onLine := false }) := by
  have failed : (s.failFrame side i x).queues.frames = s.queues.frames.modify side (·.eraseIdx i) ∨
      ∃ n, (s.failFrame side i x).queues.frames =
        s.queues.frames.modify side (·.set i { x with attempts := n, onLine := false }) := by
    unfold State.failFrame
    split
    · exact .inl rfl
    · exact .inr ⟨x.attempts + 1, rfl⟩
  have removed : ((s.onQueue side (·.eraseIdx i)).removedUnder side x.mark).queues.frames =
      s.queues.frames.modify side (·.eraseIdx i) := removedUnder_frames _ side x.mark
  unfold State.settleFrame
  split
  · exact .inl rfl
  · split
    · exact .inr ⟨x.attempts, rfl⟩
    · exact .inl removed
  all_goals
    split
    · exact failed
    · exact .inl removed

/-- After the fate of the frame on the line is settled, no frame of the queue has passed another, and none is on the
line where one was. -/
theorem settleFate_queue (s : State) (side : Side) (o : LineOutcome) :
    (s.settleFate side o).queues.frames.get side.far = s.queues.frames.get side.far ∧
      (((s.settleFate side o).queues.frames.get side).map (·.frame.cls)).Sublist
        ((s.queues.frames.get side).map (·.frame.cls)) ∧
      ((s.queues.frames.get side).countP (·.onLine) = 1 →
        ((s.settleFate side o).queues.frames.get side).countP (·.onLine) = 0) := by
  rcases onLine_or_none (s.queues.frames.get side) with ⟨pre, x, post, h⟩ | waits
  · rw [settleFate_onLine h o, h.split]
    have before : pre.countP (·.onLine) = 0 := List.countP_eq_zero.2 fun y hy => by simp [h.before y hy]
    rcases settleFrame_frames s side o pre.length x with e | ⟨n, e⟩ <;> rw [e]
    · rw [PerSide.get_modify, h.erased]
      exact ⟨by simp, by simp, by simp [before, h.onLine]⟩
    · rw [PerSide.get_modify, h.replaced]
      exact ⟨by simp, by simp, by simp [before, h.onLine]⟩
  · rw [settleFate_none waits]
    refine ⟨rfl, .refl _, fun one => ?_⟩
    rw [List.countP_eq_zero.2 fun y hy => by simp [waits y hy]] at one
    cases one

end Sys2Proof.Machine.AttemptLaws
end

section
/-! The operations of the ports uphold the bounds and order of the queues and the agreement of ports and queues
(spec/05). -/

namespace Sys2Proof.Machine.EgressLaws

open QueueLaws AttemptLaws

variable {s t : State} {side : Side}

/-! ## The ports -/

theorem upholds_select (s : State) (side : Side) : Upholds s (s.select side) := by
  unfold State.select
  split
  · exact .refl s
  · next x rest queue =>
    split
    · next ready =>
      obtain ⟨accepts, none_found⟩ := ready
      have waits : rest.countP (·.onLine) = 0 := by
        rw [onLineFrame, Option.isNone_iff_eq_none, List.find?_eq_none] at none_found
        exact List.countP_eq_zero.2 fun y hy => none_found y (List.mem_cons_of_mem x hy)
      refine upholds_at side rfl (by simp [State.beginAttempt]) (by simp [State.beginAttempt]) ?_ fun agrees => ?_
      · rw [queue]; simp [State.beginAttempt]
      · obtain ⟨-, -, fits, still⟩ := agrees
        refine ⟨?_, fun stopped => ?_,
          by simpa [State.beginAttempt] using fits, by simpa [State.beginAttempt] using still⟩
        · simp [State.beginAttempt, waits]
        · simp [State.beginAttempt, accepts] at stopped
    · exact .refl s

/-- A score that goes with a side state is 255 at most. -/
theorem score_le {state : SideState} {score : Nat} (h : state.fits score) : score ≤ 255 := by
  cases state <;>
    simp only [SideState.fits, Config.scoreWarned, Config.scoreActive, Config.scoreSilent, Config.scoreTop] at h <;>
    omega

theorem upholds_endAttempt (s : State) (side : Side) (o : LineOutcome) : Upholds s (s.endAttempt side o) := by
  unfold State.endAttempt
  split
  · next busy =>
    have grown := (s.grows_settleFate side o).rest
    obtain ⟨-, -, -, -, -, ports, -, agent, -⟩ := grown
    obtain ⟨far, classes, gone⟩ := settleFate_queue s side o
    set u := (s.settleFate side o).onPort side (Port.completed o) with hu
    have port : u.ports.get side = Port.completed o (s.ports.get side) := by simp [hu, ports]
    have portFar : u.ports.get side.far = s.ports.get side.far := by simp [hu, ports]
    obtain ⟨queueFar', portFar', agent', queue'⟩ := testSide_keeps u side
    refine upholds_at side ?_ (queueFar'.trans far) (portFar'.trans portFar) ?_ fun agrees => ?_
    · rw [agent', hu, State.onPort_agent, agent]
    · rcases queue' with e | e <;> rw [e]
      · exact classes
      · exact List.nil_sublist _
    · obtain ⟨count, empty, fits, still⟩ := agrees
      have one : (s.queues.frames.get side).countP (·.onLine) = 1 := by
        obtain ⟨x, attempt⟩ := Option.isSome_iff_exists.1 busy
        rw [count, attempt]; rfl
      have accepts : (s.ports.get side).state.accepts = true := by
        cases stopped : (s.ports.get side).state.accepts with
        | true => rfl
        | false => rw [empty stopped] at one; cases one
      refine testSide_agrees port accepts rfl (movedScore_le o (score_le fits)) ?_ (gone one)
      · cases waiting : (s.ports.get side).recovery with
        | none => exact waiting
        | some d => rw [still (by rw [waiting]; rfl)] at accepts; cases accepts
  · exact .refl s

/-- A side that recovers takes frames, has the score of an ACTIVE side and waits for nothing (R107, R108). -/
theorem upholds_recover (s : State) (side : Side) (f : PortCounters → PortCounters) :
    Upholds s (s.recover side f) := by
  refine upholds_at side rfl rfl (by simp [State.recover]) (.refl _) fun agrees => ?_
  obtain ⟨count, empty, -, -⟩ := agrees
  refine ⟨by simpa [State.recover] using count, fun stopped => ?_, ?_, ?_⟩
  · simp [State.recover, SideState.accepts] at stopped
  · simp [State.recover, SideState.fits, Config.scoreWarned]
  · simp [State.recover]

/-- A SIDE_CONTROL ON finds the queue empty (R110). -/
theorem upholds_sideOn (off : (s.ports.get side).state = .off) : Upholds s (s.sideOn side) := by
  refine upholds_at side rfl rfl (by simp [State.sideOn]) (.refl _) fun agrees => ?_
  obtain ⟨count, empty, -, still⟩ := agrees
  refine ⟨by simpa [State.sideOn] using count, fun stopped => ?_, ?_, fun waiting => ?_⟩
  · simp [State.sideOn, SideState.accepts] at stopped
  · simp [State.sideOn, SideState.fits, Config.scoreWarned]
  · have state := still (by simpa [State.sideOn] using waiting)
    rw [off] at state; cases state

/-- A change of one side is told by what it makes of that side's value. -/
theorem modify_congr {α : Type} {p : PerSide α} {f g : α → α} (h : f (p.get side) = g (p.get side)) :
    p.modify side f = p.modify side g := congrArg (p.set side) h

theorem onQueue_congr {f g : List QFrame → List QFrame}
    (h : f (s.queues.frames.get side) = g (s.queues.frames.get side)) : s.onQueue side f = s.onQueue side g := by
  unfold State.onQueue
  rw [modify_congr h]

theorem onPort_congr {f g : Port → Port} (h : f (s.ports.get side) = g (s.ports.get side)) :
    s.onPort side f = s.onPort side g := by
  unfold State.onPort
  rw [modify_congr h]

/-- Two changes of a port are one. -/
theorem onPort_onPort (f g : Port → Port) : (s.onPort side f).onPort side g = s.onPort side fun p => g (f p) := by
  simp only [State.onPort, PerSide.modify_modify]

/-- A port whose attempt, if there is one, is aborted (R100). -/
def aborted (p : Port) : Port :=
  { p with
    attempt := none
    counters := { p.counters with
      aborted := if p.attempt.isSome then bump p.counters.aborted else p.counters.aborted } }

/-- An abort is a matter of the port alone. -/
theorem abortAttempt_eq (s : State) (side : Side) : s.abortAttempt side = s.onPort side aborted := by
  unfold State.abortAttempt
  cases attempt : (s.ports.get side).attempt with
  | none =>
    have same : s.ports.get side = aborted (s.ports.get side) := by
      generalize s.ports.get side = p at attempt
      cases p
      cases attempt
      rfl
    have still : s.onPort side (fun p => p) = s := by unfold State.onPort; rw [PerSide.modify_id]
    rw [← onPort_congr (f := fun p => p) same, still]
  | some x =>
    simp only [State.countPort, onPort_onPort]
    exact onPort_congr (by simp [aborted, attempt])

/-- A queue emptied while its port goes idle, with a score that stays within 255. -/
theorem upholds_emptied {f : Nat → QueueCounters → QueueCounters} {g : Port → Port}
    (attempt : ∀ p, p.attempt = none → (g p).attempt = none) (recovery : ∀ p, (g p).recovery = none)
    (fits : ∀ p, p.score ≤ 255 → (g p).state.fits (g p).score) :
    Upholds s (((s.abortAttempt side).purge side f).onPort side g) := by
  rw [abortAttempt_eq]
  refine upholds_at side rfl (by simp [State.purge]) (by simp [State.purge]) (by simp [State.purge]) fun agrees => ?_
  obtain ⟨-, -, before, -⟩ := agrees
  have score : (s.ports.get side).score ≤ 255 := score_le before
  refine ⟨?_, fun _ => by simp [State.purge], ?_, ?_⟩
  · simp [State.purge, attempt, aborted]
  · simpa [State.purge] using fits (aborted (s.ports.get side)) score
  · simp [State.purge, recovery]

theorem upholds_sideOff (s : State) (side : Side) : Upholds s (s.sideOff side) :=
  upholds_emptied (fun _ h => h) (fun _ => rfl) fun _ h => h

theorem upholds_restartSide (s : State) (side : Side) : Upholds s (s.restartSide side) := by
  refine upholds_emptied (fun _ h => h) (fun _ => rfl) fun p _ => ?_
  simp only [Port.restarted]
  split
  · exact Nat.zero_le _
  · exact Nat.zero_lt_succ _

end Sys2Proof.Machine.EgressLaws
end

section
/-! The end of an event, the classifier, the ports' receptions and the agent uphold both invariants: they reach the
queues through admission and the trip purge alone. -/

namespace Sys2Proof.Machine.EgressLaws

open QueueLaws AttemptLaws

variable {s t : State} {side : Side}

/-- An operation under which both invariants go on holding. -/
def Safe (f : State → State) : Prop := ∀ s : State, Upholds s (f s)

/-- An operation on a state that differs only in what the invariants do not read. -/
theorem Upholds.since {u : State} (h : Upholds t u) (e : egress t = egress s) : Upholds s u := (Upholds.same e).trans h

/-! ## Reports and the end of an event -/

theorem settle_safe : Safe State.settle := by
  intro s
  have sent : ∀ u : State, Upholds u u.sendDue := by
    intro u
    unfold State.sendDue
    repeat' split
    · exact .refl u
    · exact .same rfl
    · exact (upholds_admit u _ _).trans (.same rfl)
    · exact .refl u
  have fixed : Upholds s.fixSnapshots s.settle := (sent s.fixSnapshots).trans (.same rfl)
  exact fixed.since rfl

theorem event_safe {f : State → State} (hf : Safe f) : Safe (State.event f) := by
  intro s
  unfold State.event
  split
  · exact (hf s).trans (settle_safe _)
  · exact .refl s

/-! ## The classifier, the trip unit and the query proxy -/

theorem forward_safe (side : Side) (f : Frame) : ∀ s : State, Upholds s (s.forward side f).1 := by
  intro s
  unfold State.forward
  split
  · exact .same rfl
  · exact (upholds_admit (s.countClassifier side _) side.far _).since rfl

theorem defaultAction_safe (side : Side) (f : Frame) : Safe (State.defaultAction side f) := by
  intro s
  unfold State.defaultAction
  dsimp only
  split
  · exact (forward_safe side f (s.countClassifier side _)).since rfl
  · exact .same rfl

/-- Entry into TRIPPED purges both queues and touches no port (R91, R137). -/
theorem enterTripped_safe (k : Fin 4) (side : Side) (tag : Tag) : Safe (State.enterTripped k side tag) := by
  intro s
  have cleared : ∀ u : State, Upholds u u.clearQueries := by
    intro u
    obtain ⟨-, -, queues, ports, -, agent, -⟩ := u.clearQueries_keeps
    exact .same (by simp only [egress, queues, ports, agent])
  have purged : ∀ u : State, Upholds u ((u.tripPurge .a).tripPurge .b).clearQueries := fun u =>
    ((upholds_tripPurge u .a).trans (upholds_tripPurge _ .b)).trans (cleared _)
  exact (purged (State.setFlag .tripped _)).since rfl

theorem collect_safe (k : Fin 4) (side : Side) (tag : Tag) : ∀ s : State, Upholds s (s.collect k side tag).1 := by
  intro s
  dsimp only [State.collect]
  split
  · exact enterTripped_safe k side tag s
  · exact .same rfl

theorem offerTrip_safe (k : Fin 4) (side : Side) (tag : Tag) (p : Payload) :
    ∀ s : State, Upholds s (s.offerTrip k side tag p).1 := by
  intro s
  dsimp only [State.offerTrip, State.assertSource]
  split
  · split
    · exact .same rfl
    · split
      · exact (collect_safe k side tag (s.countTrip _).beginCollection).since rfl
      · split
        · exact .same rfl
        · exact (collect_safe k side tag (s.countTrip _)).since rfl
      · exact .same rfl
      · exact .same rfl
  · exact .refl s

theorem tagStep_safe (side : Side) (tag : Tag) (settled : Bool) (p : Payload) (e : Entry) :
    ∀ s : State, Upholds s (s.tagStep side tag settled p e).1 := by
  intro s
  dsimp only [State.tagStep]
  repeat' split
  all_goals exact .same rfl

theorem dataOnward_safe (side : Side) (tag : Tag) (settled : Bool) (f : Frame) (e : Entry) :
    Safe (State.dataOnward side tag settled f e) := by
  intro s
  have stepped := tagStep_safe side tag settled f.payload e s
  unfold State.dataOnward
  split
  · split
    · next eq => rw [eq] at stepped; exact stepped.trans (forward_safe side _ _)
    · next eq => rw [eq] at stepped; exact stepped.trans (.same rfl)
    · next eq => rw [eq] at stepped; exact stepped.trans (.same rfl)
  · exact forward_safe side _ s

theorem dataUnder_safe (side : Side) (tag : Tag) (settled : Bool) (f : Frame) (e : Entry) :
    Safe (State.dataUnder side tag settled f e) := by
  intro s
  have offered : Upholds s (s.tripStep side tag f e).1 := by
    unfold State.tripStep
    split
    · exact offerTrip_safe _ side tag f.payload s
    · exact .refl s
  unfold State.dataUnder
  split
  · next eq => rw [eq] at offered; exact offered.trans (.same rfl)
  · next eq =>
    rw [eq] at offered
    split
    · exact offered.trans (.same rfl)
    · exact offered.trans (dataOnward_safe side tag settled f e _)

/-- A DATA frame: settlement, match, trip unit, tag memory and hand-off (R15 to R26). -/
theorem classifyData_safe (side : Side) (reply : Bool) (tag : Tag) (f : Frame) :
    Safe (State.classifyData side reply tag f) := by
  intro s
  have matched : ∀ settled, Safe (State.matchData side tag settled f) := by
    intro settled u
    unfold State.matchData
    split
    · exact (dataUnder_safe side tag settled f _ (u.hit _)).since rfl
    · exact defaultAction_safe side f u
  have settled : Safe (State.settleReply side tag) := by
    intro u
    unfold State.settleReply
    split
    · exact .same rfl
    · exact .refl u
  have taken : Upholds s (s.countClassifier side fun c => { c with dataTaken := bump c.dataTaken }) := .same rfl
  unfold State.classifyData
  dsimp only
  split
  · exact taken.trans (.same rfl)
  · split
    · exact (taken.trans (settled _)).trans (matched _ _)
    · exact taken.trans (matched _ _)

/-- The proxy step hands an answer to admission at most (R54, R55). -/
theorem proxyStep_safe (side : Side) (tag : Tag) (hop : Hop) (cls : FClass) :
    ∀ s : State, Upholds s (s.proxyStep side tag hop cls).1 := by
  intro s
  have asked : ∀ found, ∀ u : State, Upholds u (u.askAcross side tag hop cls found).1 := by
    intro found u
    dsimp only [State.askAcross]
    repeat' split
    all_goals exact .same rfl
  have answered : ∀ value, Safe (State.answerQuery side tag value cls) := fun value u =>
    (upholds_admit u side (answerFrame u.agent.params tag value cls)).trans (.same rfl)
  dsimp only [State.proxyStep]
  split
  · exact (answered _ { s with tags := _ }).since rfl
  · exact (asked _ { s with tags := _ }).since rfl

theorem forwardTracked_safe (side : Side) (tag : Tag) (f : Frame) : Safe (State.forwardTracked side tag f) := by
  intro s
  have sent := forward_safe side f s
  have withdrawn : Safe (State.withdrawQuery side tag) := by
    intro u
    unfold State.withdrawQuery
    split
    · exact .same rfl
    · exact .refl u
  unfold State.forwardTracked
  split
  · next eq => rw [eq] at sent; exact sent.trans (withdrawn _)
  · next eq => rw [eq] at sent; exact sent

/-- A QUERY under its winning entry: the proxy step, then the hand-off (R21, R23). -/
theorem queryUnder_safe (side : Side) (tag : Tag) (f : Frame) (e : Entry) : Safe (State.queryUnder side tag f e) := by
  intro s
  have asked := proxyStep_safe side tag f.hop (e.classOf f.cls) s
  unfold State.queryUnder
  split
  · exact .same rfl
  · exact forward_safe side _ s
  · exact forward_safe side _ s
  · split
    · next eq => rw [eq] at asked; exact asked
    · next eq => rw [eq] at asked; exact asked
    · next eq => rw [eq] at asked; exact asked.trans (forwardTracked_safe side tag _ _)
    · next eq => rw [eq] at asked; exact asked.trans (forward_safe side _ _)

theorem classifyQuery_safe (side : Side) (reply : Bool) (tag : Tag) (f : Frame) :
    Safe (State.classifyQuery side reply tag f) := by
  intro s
  unfold State.classifyQuery State.matchQuery
  dsimp only
  split
  · exact .same rfl
  · split
    · exact .same rfl
    · split
      · exact (queryUnder_safe side tag f _ (State.hit _ (s.countClassifier side _))).since rfl
      · exact (defaultAction_safe side f (s.countClassifier side _)).since rfl

/-- A MGMT frame: the agent, for an agent that is safe, and the hand-off (R27 to R30). -/
theorem classifyMgmt_safe {agent : State → State} (ha : Safe agent) (side : Side) (f : Frame) (dst src : Station) :
    Safe (State.classifyMgmt side f dst src agent) := by
  intro s
  have onward : Safe (State.forwardMgmt side f) := by
    intro u
    unfold State.forwardMgmt
    split
    · exact .same rfl
    · exact forward_safe side f u
  have taken : Upholds s (s.countClassifier side fun c => { c with mgmtTaken := bump c.mgmtTaken }) := .same rfl
  unfold State.classifyMgmt
  dsimp only
  repeat' split
  · exact .same rfl
  · exact taken.trans (ha _)
  · exact (taken.trans (ha _)).trans (onward _)
  · exact taken.trans (onward _)

/-! ## The port -/

theorem egress_acknowledge (side : Side) (yes : Bool) : egress (s.acknowledge side yes) = egress s :=
  egress_onPort fun _ => rfl

theorem egress_passOver (side : Side) : egress (s.passOver side) = egress s := by
  rw [State.passOver_eq]
  exact egress_onPort (f := fun p => { p with acknowledged := false, awaitsStart := false }) fun _ => rfl

/-- What a reception changes of a port is no matter of its line (R96 to R98, R114). -/
theorem endOfFrame_safe {take : State → State} (ht : Safe take) (side : Side) :
    Safe (State.endOfFrame side take) := by
  intro s
  rcases s.endOfFrame_cases side take with ⟨-, e⟩ | ⟨-, -, e⟩ | ⟨-, -, e⟩ <;> rw [e]
  · exact .same (egress_passOver side)
  · exact .same ((egress_countPort _).trans (egress_acknowledge side false))
  · exact ht s

theorem receiveGood_safe {classify : State → State} (hc : Safe classify) (side : Side) :
    Safe (State.receiveGood side classify) := fun _ =>
  (hc _).since ((egress_countPort _).trans (egress_acknowledge side true))

theorem arrive_safe {agent : State → State} (ha : Safe agent) (m : Arrival) (toAll : Bool) (payload : Payload) :
    Safe (State.arrive m toAll payload agent) := fun s =>
  endOfFrame_safe (receiveGood_safe (classifyMgmt_safe ha _ _ _ _) _) _ s

/-! ## The agent -/

theorem respond_safe (m : Arrival) (r : Response) : Safe (State.respond m r) := by
  intro s
  have admitted := upholds_admit s m.side (responseFrame s.agent.params m.source r)
  unfold State.respond
  split
  · next eq => rw [eq] at admitted; exact admitted
  · next eq => rw [eq] at admitted; exact admitted.trans (.same rfl)

theorem finish_safe (first : Bool) (m : Arrival) (r : Response) : Safe (State.finish first m r) := by
  intro s
  have kept : Upholds s (s.keepResponse m r) := by
    unfold State.keepResponse
    repeat' split
    all_goals exact .same rfl
  unfold State.finish
  dsimp only
  split
  · exact (kept.trans (settle_safe _)).trans (respond_safe m r _)
  · exact kept.trans (respond_safe m r _)

/-- A command whose rule and whose refusal are safe. -/
structure SafeCommand (c : Command) : Prop where
  run    : ∀ s : State, Upholds s (c.run s).1
  refuse : ∀ s : State, Upholds s (c.refuse s).1

/-- A COMMAND taken by the agent (R144). -/
theorem take_safe {c : Command} (hc : SafeCommand c) (m : Arrival) (seq : Byte) : Safe (State.take m seq c) := by
  intro s
  have counted : Upholds s s.countCommand := .same rfl
  have decided : Upholds s (s.countCommand.decideCommand m c).1 := by
    unfold State.decideCommand
    split
    · exact (hc.refuse (s.countCommand.countAgent _)).since rfl
    · exact counted.trans (hc.run _)
  unfold State.take
  split
  · exact (respond_safe m _ _).since rfl
  · split
    next eq => rw [eq] at decided; exact decided.trans (finish_safe _ m _ _)

theorem takeBroadcast_safe {c : Command} (hc : SafeCommand c) (m : Arrival) (seq : Byte) :
    Safe (State.takeBroadcast m seq c) := by
  intro s
  have run : Upholds s (c.run s.countCommand).1 := (hc.run s.countCommand).since rfl
  unfold State.takeBroadcast
  split
  next eq => rw [eq] at run; exact (run.trans (settle_safe _)).trans (respond_safe m _ _)

theorem takeAck_safe (src : Station) (seq : Byte) : Safe (State.takeAck src seq) := by
  intro s
  unfold State.takeAck
  split <;> exact .same rfl

end Sys2Proof.Machine.EgressLaws
end

section
/-! Every command and every row of the table upholds both invariants. -/

namespace Sys2Proof.Machine.EgressLaws

open QueueLaws AttemptLaws

variable {s t : State} {side : Side}

/-! ## The commands -/

variable {run : State → State × Reply} {code : Byte}

theorem openCommand_safe (h : ∀ s : State, Upholds s (run s).1) : SafeCommand (openCommand code run) :=
  ⟨h, fun s => .refl s⟩
theorem ownerCommand_safe (h : ∀ s : State, Upholds s (run s).1) : SafeCommand (ownerCommand code run) :=
  ⟨h, fun s => .refl s⟩

theorem noArguments_safe (h : ∀ s : State, Upholds s (run s).1) (args : Payload) (s : State) :
    Upholds s (noArguments args run s).1 := by
  unfold noArguments
  split
  · exact h s
  · exact .refl s

theorem inClean_safe (h : ∀ s : State, Upholds s (run s).1) (s : State) : Upholds s (inClean run s).1 := by
  unfold inClean
  split
  · exact .refl s
  · exact h s

theorem abortTransfer_safe : Safe State.abortTransfer := by
  intro s
  unfold State.abortTransfer
  split <;> exact .same rfl

theorem endSession_safe : Safe State.endSession := fun s => (abortTransfer_safe s).trans (.same rfl)

theorem identify_safe (args : Payload) : SafeCommand (identifyCommand args) :=
  openCommand_safe (noArguments_safe (fun s => .refl s) args)

theorem openSession_safe (m : Arrival) (seq : Byte) (args : Payload) : SafeCommand (openSessionCommand m seq args) := by
  refine openCommand_safe fun s => ?_
  unfold runOpen
  repeat' split
  all_goals exact .same rfl

theorem close_safe (args : Payload) : SafeCommand (closeCommand args) :=
  ownerCommand_safe (noArguments_safe (fun s => (endSession_safe s).trans (.same rfl)) args)

theorem status_safe (m : Arrival) (args : Payload) : SafeCommand (statusCommand m args) := by
  refine openCommand_safe fun s => ?_
  repeat' split
  all_goals exact .refl s

theorem readCounters_safe (args : Payload) : SafeCommand (readCountersCommand args) := by
  refine openCommand_safe fun s => ?_
  repeat' split
  all_goals exact .refl s

/-- Cleared counters are neither queues nor lines (R159). -/
theorem clearSet_safe (n : Nat) : Safe (State.clearSet n) := by
  intro s
  unfold State.clearSet
  split
  all_goals exact .same rfl

theorem clearCounters_safe (args : Payload) : SafeCommand (clearCountersCommand args) := by
  refine ownerCommand_safe fun s => ?_
  have all : Upholds s s.clearAllSets := by
    unfold State.clearAllSets
    exact List.foldlRecOn _ _ (.refl s) fun u hu n _ => hu.trans (clearSet_safe n u)
  repeat' split
  · exact all
  · exact clearSet_safe _ s
  · exact .refl s
  · exact .refl s

theorem readEntry_safe (args : Payload) : SafeCommand (readEntryCommand args) := by
  refine openCommand_safe fun s => ?_
  repeat' split
  all_goals exact .refl s

theorem writeEntry_safe (args : Payload) : SafeCommand (writeEntryCommand args) := by
  refine ownerCommand_safe fun s => ?_
  split
  · split
    · exact .refl s
    · refine inClean_safe (fun u => ?_) s
      split <;> exact .same rfl
  · exact .refl s

theorem writeMasksDefaults_safe (args : Payload) : SafeCommand (writeMasksDefaultsCommand args) := by
  refine ownerCommand_safe fun s => ?_
  split
  · exact .refl s
  · refine inClean_safe (fun u => ?_) s
    split <;> exact .same rfl

theorem copyActive_safe (args : Payload) : SafeCommand (copyActiveCommand args) := by
  refine ownerCommand_safe (noArguments_safe (fun s => ?_) args)
  unfold runCopyActive
  split <;> exact .same rfl

theorem commit_safe (args : Payload) : SafeCommand (commitCommand args) := by
  refine ownerCommand_safe (noArguments_safe (inClean_safe fun s => ?_) args)
  unfold runCommit
  split <;> exact .same rfl

theorem loadBegin_safe (args : Payload) : SafeCommand (loadBeginCommand args) := by
  refine ownerCommand_safe fun s => ?_
  unfold runLoadBegin
  repeat' split
  all_goals exact .same rfl

theorem refuseLoadPart_safe (status : Status) (args : Payload) (s : State) :
    Upholds s (refuseLoadPart status args s).1 := by
  cases args <;> exact .same rfl

theorem runLoadPart_safe (part : Byte) (item : Payload) (s : State) : Upholds s (runLoadPart part item s).1 := by
  unfold runLoadPart
  repeat' split
  · exact .refl s
  · exact .refl s
  · exact .refl s
  · exact .same rfl
  · exact abortTransfer_safe s
  · exact .same rfl
  · exact .refl s

theorem loadPart_safe (args : Payload) : SafeCommand (loadPartCommand args) where
  refuse := refuseLoadPart_safe _ args
  run := by
    intro s
    unfold loadPartCommand
    split
    · exact runLoadPart_safe _ _ s
    · exact refuseLoadPart_safe _ args s

theorem loadEnd_safe (args : Payload) : SafeCommand (loadEndCommand args) := by
  refine ownerCommand_safe fun s => ?_
  unfold runLoadEnd
  repeat' split
  · exact .refl s
  · exact .refl s
  · exact abortTransfer_safe s
  · exact abortTransfer_safe s
  · exact .same rfl
  · exact .refl s

theorem readout_safe (i : Fin 48) (page : Nat) (s : State) : Upholds s (s.readout i page).1 := by
  unfold State.readout
  split <;> exact .same rfl

theorem readRecord_safe (args : Payload) : SafeCommand (readRecordCommand args) := by
  refine openCommand_safe fun s => ?_
  repeat' split
  · exact readout_safe _ _ s
  · exact .refl s
  · exact .refl s
  · exact readout_safe _ _ s
  all_goals exact .refl s

theorem flush_safe (args : Payload) : SafeCommand (flushCommand args) :=
  ownerCommand_safe (noArguments_safe (fun _ => .same rfl) args)

theorem readQueries_safe (args : Payload) : SafeCommand (readQueriesCommand args) := by
  refine openCommand_safe fun s => ?_
  repeat' split
  all_goals exact .refl s

/-- CANCEL_TAG thins the named queues out (R86). -/
theorem upholds_cancelTag (s : State) (sides : Byte) (tag : Tag) : Upholds s (s.cancelTag sides tag).1 := by
  unfold State.cancelTag
  split
  · exact upholds_cancelIn s .a tag
  · split
    · exact upholds_cancelIn s .b tag
    · split
      · exact (upholds_cancelIn s .a tag).trans (upholds_cancelIn _ .b tag)
      · exact .refl s

theorem cancelTag_safe (args : Payload) : SafeCommand (cancelTagCommand args) := by
  refine ownerCommand_safe fun s => ?_
  split
  · split
    · exact upholds_cancelTag s _ _
    · exact .refl s
  · exact .refl s

theorem sideAction_safe {action : SideAction} {u : State} (e : s.sideAction side action = some u) : Upholds s u := by
  unfold State.sideAction at e
  split at e <;> cases e
  · exact .refl s
  · exact upholds_sideOff s side
  · next off => exact upholds_sideOn off
  · exact upholds_recover s side _

theorem sideControl_safe (args : Payload) : SafeCommand (sideControlCommand args) := by
  refine ownerCommand_safe fun s => ?_
  unfold runSideControl
  repeat' split
  · next e => exact sideAction_safe e
  all_goals exact .refl s

/-- A ceiling is not set below the length of its queue (R156). -/
theorem configure_safe {i : ParamId} {v : BitVec 16} (taken : s.refusesConfig i v = false) :
    Upholds s (s.configure i v) := by
  have set : Upholds s (s.withParams (s.agent.params.withValue i v)) := by
    cases i with
    | ceiling side =>
      have above : (s.queues.frames.get side).length ≤ v.toNat := by simpa [State.refusesConfig] using taken
      refine ⟨fun h => ?_, fun h => h⟩
      rw [inBounds_iff side] at h ⊢
      obtain ⟨pool, ⟨-, ordered⟩, far⟩ := h
      simpa [Params.withValue] using And.intro pool (And.intro (And.intro above ordered) far)
    | _ => exact .same rfl
  unfold State.configure
  dsimp only
  split
  · exact (set.trans (upholds_rereadAge _ .a _)).trans (upholds_rereadAge _ .b _)
  · exact set

theorem setConfig_safe (args : Payload) : SafeCommand (setConfigCommand args) := by
  refine ownerCommand_safe fun s => ?_
  repeat' split
  · exact .refl s
  · exact .refl s
  · exact .refl s
  · next taken => exact configure_safe (by simpa using taken)
  · exact .refl s

theorem readConfig_safe (args : Payload) : SafeCommand (readConfigCommand args) := by
  refine openCommand_safe fun s => ?_
  split
  · split
    · exact .same rfl
    · split <;> exact .refl s
  · exact .refl s

theorem setTrip_safe (args : Payload) : SafeCommand (setTripCommand args) := by
  refine ownerCommand_safe fun s => ?_
  unfold runSetTrip
  repeat' split
  all_goals exact .same rfl

theorem releaseTrip_safe (args : Payload) : SafeCommand (releaseTripCommand args) := by
  refine ownerCommand_safe (noArguments_safe (fun s => ?_) args)
  unfold runReleaseTrip
  split <;> exact .same rfl

theorem readEvents_safe (args : Payload) : SafeCommand (readEventsCommand args) := by
  refine openCommand_safe fun s => ?_
  repeat' split
  all_goals exact .refl s

theorem clearEvents_safe (args : Payload) : SafeCommand (clearEventsCommand args) := by
  refine ownerCommand_safe fun s => ?_
  split <;> exact .same rfl

theorem enableEvents_safe (args : Payload) : SafeCommand (enableEventsCommand args) := by
  refine ownerCommand_safe fun s => ?_
  split
  · exact (settle_safe { s with events := _ }).since rfl
  · exact .refl s

theorem slotReadout_safe (i : SlotId) (s : State) : Upholds s (s.slotReadout i).1 := by
  unfold State.slotReadout
  split <;> exact .same rfl

theorem store_safe (args : Payload) : SafeCommand (storeCommand args) := by
  refine ownerCommand_safe (noArguments_safe (fun s => ?_) args)
  unfold runStore
  split
  · exact .refl s
  · have read : Upholds s.beginStore (s.beginStore.storeReply s.image.target s.image.nextSeq).1 :=
      (slotReadout_safe .zero s.beginStore).trans (slotReadout_safe .one _)
    exact read.since rfl

/-- RESTART empties both queues and starts the ports again (R92, R113, R161). -/
theorem restart_safe (args : Payload) : SafeCommand (restartCommand args) := by
  refine ⟨noArguments_safe (fun s => ?_) args, fun s => .refl s⟩
  unfold runRestart
  split
  · exact .refl s
  · unfold State.restartAll
    exact ((upholds_restartSide s .a).trans (upholds_restartSide _ .b)).trans ((abortTransfer_safe _).since rfl)

theorem unknown_safe (code : Byte) : SafeCommand (unknownCode code) := openCommand_safe fun _ => .same rfl

/-- Every command is safe. -/
theorem commandFor_safe (m : Arrival) (seq code : Byte) (args : Payload) :
    SafeCommand (commandFor m seq code args) := by
  unfold commandFor
  split
  · exact identify_safe args
  · exact openSession_safe m seq args
  · exact close_safe args
  · exact status_safe m args
  · exact readCounters_safe args
  · exact clearCounters_safe args
  · exact readEntry_safe args
  · exact writeEntry_safe args
  · exact writeMasksDefaults_safe args
  · exact copyActive_safe args
  · exact commit_safe args
  · exact loadBegin_safe args
  · exact loadPart_safe args
  · exact loadEnd_safe args
  · exact readRecord_safe args
  · exact flush_safe args
  · exact readQueries_safe args
  · exact cancelTag_safe args
  · exact sideControl_safe args
  · exact setConfig_safe args
  · exact readConfig_safe args
  · exact setTrip_safe args
  · exact releaseTrip_safe args
  · exact readEvents_safe args
  · exact clearEvents_safe args
  · exact enableEvents_safe args
  · exact store_safe args
  · exact restart_safe args
  · exact unknown_safe code

/-! ## Receptions and messages -/

/-- What the agent does with a message, whatever it is (R143). -/
theorem agentTakes_safe (m : Arrival) (toAll : Bool) (payload : Payload) : Safe (State.agentTakes m toAll payload) := by
  intro s
  unfold State.agentTakes State.takeAnnouncement State.takeMessage
  split
  · repeat' split
    · exact .same rfl
    · exact takeBroadcast_safe (identify_safe _) m _ s
    · exact .same rfl
    · exact take_safe (commandFor_safe m _ _ _) m _ s
    · exact takeAck_safe _ _ s
    · exact .same rfl
    · exact .same rfl
  · exact .same rfl

theorem receive_safe (side : Side) (bytes : List Byte) : Safe (State.receive side bytes) := by
  have classify : ∀ f, Safe (State.classify side f) := by
    intro f s
    unfold State.classify
    split
    · exact classifyData_safe side _ _ f s
    · exact classifyQuery_safe side _ _ f s
    · exact classifyMgmt_safe (agentTakes_safe _ _ _) side f _ _ s
    · exact .same rfl
  refine endOfFrame_safe (fun s => ?_) side
  split
  · exact receiveGood_safe (classify _) side s
  · have flagged : egress (s.receiveBad side) =
        egress ((s.acknowledge side false).countPort side fun c => { c with badFrame := bump c.badFrame }) := rfl
    exact .same (flagged.trans ((egress_countPort _).trans (egress_acknowledge side false)))

/-- A message row that the bus can carry is an event, else it stops (log entry 20). -/
theorem arrival_safe {fits toAll : Bool} {m : Arrival} {payload : Payload} {agent : State → State} (ha : Safe agent)
    (e : arrival fits m toAll payload agent s = .next t) : Upholds s t := by
  unfold arrival at e
  split at e <;> cases e
  exact event_safe (arrive_safe ha m toAll payload) s

/-! ## Deadlines, power and start-up -/

theorem autoRecover_safe (side : Side) : Safe (State.autoRecover side) := by
  intro s
  unfold State.autoRecover
  dsimp only
  split
  · exact upholds_recover s side _
  · exact .refl s

theorem ageOut_safe (side : Side) (place : Nat) : Safe (State.ageOut side place) := by
  intro s
  unfold State.ageOut
  repeat' split
  · exact upholds_expire s side place
  · exact .refl s
  · exact .refl s

theorem timeoutQuery_safe (place : Nat) : Safe (State.timeoutQuery place) := by
  intro s
  unfold State.timeoutQuery
  repeat' split
  all_goals exact .same rfl

theorem lapseWindow_safe : Safe State.lapseWindow := by
  intro s
  unfold State.lapseWindow
  split <;> exact .same rfl

theorem expireLease_safe : Safe State.expireLease := by
  intro s
  unfold State.expireLease
  repeat' split
  · exact (endSession_safe s).trans (.same rfl)
  · exact .refl s
  · exact .refl s

theorem expireTransfer_safe : Safe State.expireTransfer := by
  intro s
  unfold State.expireTransfer
  repeat' split
  · exact abortTransfer_safe s
  all_goals exact .refl s

theorem retryReport_safe : Safe State.retryReport := by
  intro s
  unfold State.retryReport
  repeat' split
  all_goals exact .same rfl

theorem completeStore_safe (verified : Bool) : Safe (State.completeStore verified) := by
  intro s
  unfold State.completeStore State.endStore
  repeat' split
  all_goals exact .same rfl

/-- A part that starts or stops has empty queues and idle ports (R114, R190). -/
theorem started_safe (img : Image) (x : ImageStore) (free : Nat) (pending : List Instr) (phase : Phase) :
    Upholds s { State.started img x free pending with phase := phase } := by
  have agrees : ∀ on, (Port.started on).Agrees [] := by
    intro on
    refine ⟨rfl, fun _ => rfl, ?_, fun waiting => nomatch waiting⟩
    cases on
    · exact Nat.zero_le _
    · exact Nat.zero_lt_succ _
  refine ⟨fun _ => ?_, fun _ => ⟨agrees _, agrees _⟩⟩
  exact ⟨⟨Nat.zero_le _, Nat.zero_le _, Nat.zero_le _⟩, .nil, .nil⟩

theorem endStarting_safe (busyA busyB : Bool) : Safe (State.endStarting busyA busyB) := by
  intro s
  have flagged : ∀ u : State, Upholds u u.setDue := by
    intro u
    unfold State.setDue
    split <;> exact .same rfl
  unfold State.endStarting
  split
  · exact ((flagged _).trans (settle_safe _)).since rfl
  all_goals exact .refl s

/-! ## Every row -/

theorem exec_safe {i : Instr} (e : exec i s = .next t) : Upholds s t := by
  cases c : i.command with
  | some x =>
    obtain ⟨m, seq, code⟩ := x
    rw [(CommandRows.command_row (CommandRows.wellFormed_of_next e) c).2] at e
    exact arrival_safe (take_safe (commandFor_safe m seq code i.args) m seq) e
  | none =>
    cases i with
    | rstNLow => cases e; exact started_safe _ _ _ _ .held
    | powerLoss => cases e; exact started_safe _ _ _ _ .unpowered
    | startUp strap failmodeHigh checks0 checks1 => cases e; exact started_safe _ _ _ _ .starting
    | startingEnd busyA busyB => cases e; exact endStarting_safe busyA busyB s
    | reception side bytes => cases e; exact event_safe (receive_safe side bytes) s
    | transmitterSelection side => cases e; exact event_safe (upholds_select · side) s
    | lineWaitExpiry side =>
      cases e
      refine event_safe (fun u => ?_) s
      split
      · exact upholds_endAttempt u side .lineError
      · exact .refl u
    | attemptCompletion side outcome => cases e; exact event_safe (upholds_endAttempt · side outcome) s
    | recoveryDeadline side => cases e; exact event_safe (autoRecover_safe side) s
    | ageDeadline side place => cases e; exact event_safe (ageOut_safe side place) s
    | freshnessDeadline record =>
      cases e
      exact event_safe (f := fun s => { s with tags := s.tags.expire record s.now }) (fun _ => .same rfl) s
    | queryEntryDeadline place => cases e; exact event_safe (timeoutQuery_safe place) s
    | windowDeadline => cases e; exact event_safe lapseWindow_safe s
    | leaseDeadline => cases e; exact event_safe expireLease_safe s
    | idleDeadline => cases e; exact event_safe expireTransfer_safe s
    | retryDeadline => cases e; exact event_safe retryReport_safe s
    | storeCompletion verified => cases e; exact event_safe (completeStore_safe verified) s
    | ack m seq =>
      change arrival true m false (ackPayload seq) (State.takeAck m.source seq) s = .next t at e
      exact arrival_safe (takeAck_safe m.source seq) e
    | badMessage m toAll payload => exact arrival_safe (agent := State.countBadMessage) (fun _ => .same rfl) e
    | ignoredMessage m toAll payload => exact arrival_safe (agent := State.countIgnoredMessage) (fun _ => .same rfl) e
    | identify m toAll seq args =>
      cases toAll with
      | true => exact arrival_safe (takeBroadcast_safe (identify_safe args) m seq) e
      | false => cases c
    | _ => cases c

/-- A tick and the queue of commands are no matter of the two invariants, and every row upholds them. -/
theorem step_safe (e : step s = .next t) : Upholds s t := by
  unfold step at e
  split at e
  · cases e
    unfold State.tick
    split <;> exact .same rfl
  · next c rest _ => exact (exec_safe (s := { s with pending := rest }) e).since rfl

/-- Settles O53. -/
theorem queuesStayInBounds : Obligations.QueuesStayInBounds := by
  unfold Obligations.QueuesStayInBounds
  intro s t pool order e
  exact (step_safe e).bounds ⟨pool, order⟩

/-- Settles O54. -/
theorem portsAgreeWithTheirQueues : Obligations.PortsAgreeWithTheirQueues := by
  unfold Obligations.PortsAgreeWithTheirQueues
  intro s t lines e
  exact (step_safe e).lines lines

end Sys2Proof.Machine.EgressLaws
end

section
/-! Transmitter selection and the end of an attempt, told exactly (spec/04, 4.3; spec/05, 5.2 and 5.3): the frame put on
the line, what becomes of it by the outcome, and the side state that the new score leads to. -/

namespace Sys2Proof.Machine.AttemptLaws

open DeliveryLaws EgressLaws

variable {s : State} {side : Side} {q pre post : List QFrame} {x : QFrame} {o : LineOutcome}

/-! ## Selection (R78, R100) -/

/-- A side that takes frames and has none on the line puts its first one there. -/
theorem select_first {rest : List QFrame} (accepts : (s.ports.get side).state.accepts = true)
    (queue : s.queues.frames.get side = x :: rest) (waits : ∀ y ∈ x :: rest, y.onLine = false) :
    s.select side = s.beginAttempt side x rest := by
  have none_found : (onLineFrame (x :: rest)).isNone = true := by
    rw [onLineFrame, Option.isNone_iff_eq_none, List.find?_eq_none]
    exact fun y hy => by simp [waits y hy]
  unfold State.select
  simp only [queue]
  exact if_pos ⟨accepts, none_found⟩

/-- Settles O24: the attempt begins, and the event leaves nothing to settle. -/
theorem selectionPutsTheFirstFrameOnTheLine : Obligations.SelectionPutsTheFirstFrameOnTheLine := by
  unfold Obligations.SelectionPutsTheFirstFrameOnTheLine
  intro side x rest s run quiet accepts queue waits
  have selected := select_first accepts queue waits
  change Host.Outcome.next (s.event (State.select side)) = _
  rw [event_quiet run (by rw [selected]; exact (State.quiet_congr rfl).2 quiet), selected]
  simp only [State.beginAttempt, State.countPort, State.onPort, PerSide.modify_modify]
  rfl

/-! ## The queue after an attempt -/

theorem OnLine.onQueue_erased (h : OnLine (s.queues.frames.get side) pre x post) :
    s.onQueue side (·.eraseIdx pre.length) = s.onQueue side fun _ => pre ++ post :=
  onQueue_congr h.erased

theorem OnLine.requeued (h : OnLine (s.queues.frames.get side) pre x post) (y : QFrame) :
    s.requeue side pre.length y = s.onQueue side fun _ => pre ++ { y with onLine := false } :: post :=
  onQueue_congr (h.replaced _)

/-- An attempt in progress ends: the frame's fate, the port idle again, and the side state tested (R101). -/
theorem endAttempt_fate (busy : (s.ports.get side).attempt.isSome = true)
    (h : OnLine (s.queues.frames.get side) pre x post) {u : State} (fate : s.settleFrame side o pre.length x = u) :
    s.endAttempt side o = (u.onPort side (Port.completed o)).testSide side := by
  unfold State.endAttempt
  rw [if_pos busy, settleFate_onLine h, fate]

/-! ## The side state after an attempt (R104 to R106) -/

/-- A score that goes with its side state changes nothing. -/
theorem testSide_fits (accepts : (s.ports.get side).state.accepts = true)
    (fits : (s.ports.get side).state.fits (s.ports.get side).score) : s.testSide side = s := by
  cases state : (s.ports.get side).state <;> rw [state] at accepts fits
  case active =>
    have low : (s.ports.get side).score < 96 := fits
    rw [testSide_active state, if_neg (by omega), if_neg (by omega)]
  case warned =>
    obtain ⟨high, low⟩ : 64 < (s.ports.get side).score ∧ (s.ports.get side).score < 192 := fits
    rw [testSide_warned state, if_neg (by omega), if_neg (by omega)]
  all_goals cases accepts

theorem testSide_calms (warned : (s.ports.get side).state = .warned) (low : (s.ports.get side).score ≤ 64) :
    s.testSide side = s.onPort side fun p => { p with state := .active } := by
  rw [testSide_warned warned, if_neg (by omega), if_pos low]

theorem testSide_warns (active : (s.ports.get side).state = .active) (high : 96 ≤ (s.ports.get side).score)
    (low : (s.ports.get side).score < 192) : s.testSide side = s.enterWarned side := by
  rw [testSide_active active, if_neg (by omega), if_pos high]

theorem testSide_silences (accepts : (s.ports.get side).state.accepts = true)
    (high : 192 ≤ (s.ports.get side).score) :
    s.testSide side = s.enterSilent side := by
  cases state : (s.ports.get side).state <;> rw [state] at accepts
  case active => rw [testSide_active state, if_pos high]
  case warned => rw [testSide_warned state, if_pos high]
  all_goals cases accepts

/-! ## SENT and LOST (R79, R80, R105) -/

/-- A removal under a mark counted (R85). -/
def underMark (m : Mark) (c : QueueCounters) : QueueCounters :=
  match m with
  | .none => c
  | .stale => { c with stale := bump c.stale }
  | .cancelled => { c with cancelled := bump c.cancelled }
  | .isolated => { c with isolatedRemoved := bump c.isolatedRemoved }

/-- Where no report can be made, a removal under a mark is a count, and for a stale frame STALE_DROP. -/
theorem removedUnder_unreported (unreported : s.agent.params.reportStation = stationNone) (side : Side) (m : Mark) :
    s.removedUnder side m =
      { s.countQueue side (underMark m) with
        events := if m = .stale then s.events.mark .staleDrop else s.events } := by
  cases m with
  | none =>
    have same : s.queues.counters.modify side (underMark .none) = s.queues.counters := PerSide.modify_id _ _
    simp [State.removedUnder, State.countQueue, same]
  | stale =>
    have marked : s.events.setFlag s.agent.params s.now .staleDrop = s.events.mark .staleDrop :=
      Events.setFlag_unreported _ _ _ _ unreported
    simp only [State.removedUnder, State.setFlag, State.countQueue, marked]
    rfl
  | cancelled => rfl
  | isolated => rfl

/-- The port after SENT: a WARNED side at 64 or less is ACTIVE again (R105). -/
theorem sent_testSide (s : State) (accepts : (s.ports.get side).state.accepts = true)
    (fits : (s.ports.get side).state.fits (s.ports.get side).score) :
    (s.onPort side (Port.completed .sent)).testSide side =
      s.onPort side fun p =>
        { p with
          state := if p.state = .warned ∧ p.score - 1 ≤ 64 then .active else p.state
          score := p.score - 1
          attempt := none
          counters := { p.counters with sent := bump p.counters.sent } } := by
  have here : (s.onPort side (Port.completed .sent)).ports.get side = Port.completed .sent (s.ports.get side) := by simp
  by_cases calm : (s.ports.get side).state = .warned ∧ (s.ports.get side).score - 1 ≤ 64
  · rw [testSide_calms (by rw [here]; exact calm.1) (by rw [here]; exact calm.2)]
    rw [onPort_onPort]
    exact onPort_congr (by rw [if_pos calm]; rfl)
  · rw [testSide_fits (by rw [here]; exact accepts)]
    · exact onPort_congr (by rw [if_neg calm]; rfl)
    · rw [here]
      change (s.ports.get side).state.fits ((s.ports.get side).score - 1)
      cases state : (s.ports.get side).state <;> rw [state] at accepts fits
      case active => exact Nat.lt_of_le_of_lt (Nat.sub_le _ 1) fits
      case warned =>
        have low : (s.ports.get side).score < 192 := fits.2
        have high : ¬(s.ports.get side).score - 1 ≤ 64 := fun h => calm ⟨state, h⟩
        exact ⟨Nat.lt_of_not_le high, Nat.lt_of_le_of_lt (Nat.sub_le _ 1) low⟩
      all_goals cases accepts

/-- The port after LOST: idle, its score and side state as they were. -/
theorem lost_testSide (s : State) (accepts : (s.ports.get side).state.accepts = true)
    (fits : (s.ports.get side).state.fits (s.ports.get side).score) :
    (s.onPort side (Port.completed .lost)).testSide side =
      s.onPort side fun p =>
        { p with attempt := none, counters := { p.counters with lost := bump p.counters.lost } } := by
  have here : (s.onPort side (Port.completed .lost)).ports.get side = Port.completed .lost (s.ports.get side) := by simp
  rw [testSide_fits (by rw [here]; exact accepts) (by rw [here]; exact fits)]
  rfl

/-- The end of an attempt that leaves the report list alone, as a row. -/
theorem exec_completion (run : s.phase = .running) (quiet : s.Quiet)
    (same : (s.endAttempt side o).events.reports = s.events.reports) :
    exec (.attemptCompletion side o) s = .next (s.endAttempt side o) := by
  change Host.Outcome.next (s.event (State.endAttempt side o)) = _
  rw [event_quiet run ((State.quiet_congr same).2 quiet)]

/-- Settles O25. -/
theorem sentAndLostAttempts : Obligations.SentAndLostAttempts := by
  unfold Obligations.SentAndLostAttempts
  intro side pre post x s run quiet busy accepts fits split onLine before
  have h : OnLine (s.queues.frames.get side) pre x post := ⟨split, onLine, before⟩
  refine ⟨?_, fun unmarked => ?_, fun marked unreported => ?_⟩
  · have fate : s.settleFrame side .sent pre.length x =
        (s.onQueue side fun _ => pre ++ post).countQueue side fun c => { c with sent := bump c.sent } := by
      simp only [State.settleFrame, h.onQueue_erased]
    have sent : s.endAttempt side .sent = _ := (endAttempt_fate busy h fate).trans (sent_testSide _ accepts fits)
    rw [exec_completion run quiet (by rw [sent]; rfl), sent]
  · have fate : s.settleFrame side .lost pre.length x =
        s.onQueue side fun _ => pre ++ { x with onLine := false } :: post := by
      simp only [State.settleFrame, if_pos unmarked, h.requeued]
    have lost : s.endAttempt side .lost = _ := (endAttempt_fate busy h fate).trans (lost_testSide _ accepts fits)
    rw [exec_completion run quiet (by rw [lost]; rfl), lost]
  · have fate : s.settleFrame side .lost pre.length x =
        { (s.onQueue side fun _ => pre ++ post).countQueue side (underMark x.mark) with
          events := if x.mark = .stale then s.events.mark .staleDrop else s.events } := by
      simp only [State.settleFrame, if_neg marked, h.onQueue_erased]
      exact removedUnder_unreported (s := s.onQueue side fun _ => pre ++ post) unreported.2 side x.mark
    have lost : s.endAttempt side .lost = _ := (endAttempt_fate busy h fate).trans (lost_testSide _ accepts fits)
    have reports : (if x.mark = .stale then s.events.mark .staleDrop else s.events).reports = s.events.reports := by
      split <;> rfl
    rw [exec_completion run quiet (by rw [lost]; exact reports), lost]
    rfl

end Sys2Proof.Machine.AttemptLaws
end

section
/-! Failed attempts (R81, R85, R100, R102, R104, R106): where no report can be made, the fate of the frame and the side
state that the new score leads to, in one equation each. -/

namespace Sys2Proof.Machine.AttemptLaws

open DeliveryLaws EgressLaws

variable {s : State} {side : Side} {pre post : List QFrame} {x : QFrame} {o : LineOutcome}

/-! ## The fate of a frame whose attempt failed -/

/-- The frame leaves its queue: it has a removal mark, or is past RETRY_LIMIT (R81, R85). -/
def leaves (limit : Nat) (x : QFrame) : Bool := x.mark != .none || decide (limit < x.attempts + 1)

/-- The queue that a failed attempt of its frame `x` leaves. -/
def failedQueue (limit : Nat) (pre : List QFrame) (x : QFrame) (post : List QFrame) : List QFrame :=
  if leaves limit x then pre ++ post else pre ++ { x with attempts := x.attempts + 1, onLine := false } :: post

/-- The count of the frame's leaving, if it leaves. -/
def failedCount (limit : Nat) (x : QFrame) (c : QueueCounters) : QueueCounters :=
  match x.mark with
  | .none => if leaves limit x then { c with undeliverable := bump c.undeliverable } else c
  | .stale => { c with stale := bump c.stale }
  | .cancelled => { c with cancelled := bump c.cancelled }
  | .isolated => { c with isolatedRemoved := bump c.isolatedRemoved }

/-- The flag that the frame's leaving sets, if it sets one. -/
def failedEvents (limit : Nat) (side : Side) (x : QFrame) (ev : Events) : Events :=
  match x.mark with
  | .none => if leaves limit x then ev.mark (.undeliverable side) else ev
  | .stale => ev.mark .staleDrop
  | .cancelled | .isolated => ev

theorem leaves_unmarked {limit : Nat} (h : x.mark = .none) : leaves limit x = decide (limit < x.attempts + 1) := by
  simp [leaves, h]

theorem leaves_marked {limit : Nat} (h : x.mark ≠ .none) : leaves limit x = true := by
  simp [leaves, h]

theorem failedCount_past {limit : Nat} (h : x.mark = .none) (past : limit < x.attempts + 1) :
    failedCount limit x = fun c => { c with undeliverable := bump c.undeliverable } := by
  funext c
  simp only [failedCount, h, leaves_unmarked h, past, decide_true, if_true]

theorem failedCount_stays {limit : Nat} (h : x.mark = .none) (within : ¬limit < x.attempts + 1) :
    failedCount limit x = fun c => c := by
  funext c
  simp only [failedCount, h, leaves_unmarked h, within, decide_false, Bool.false_eq_true, if_false]

theorem failedCount_marked {limit : Nat} (h : x.mark ≠ .none) : failedCount limit x = underMark x.mark := by
  funext c
  unfold failedCount underMark
  cases m : x.mark
  case none => exact absurd m h
  all_goals rfl

theorem failedEvents_marked {limit : Nat} {ev : Events} (h : x.mark ≠ .none) :
    failedEvents limit side x ev = if x.mark = .stale then ev.mark .staleDrop else ev := by
  unfold failedEvents
  cases m : x.mark
  case none => exact absurd m h
  all_goals rfl

theorem failedEvents_unmarked {limit : Nat} {ev : Events} (h : x.mark = .none) :
    failedEvents limit side x ev = if limit < x.attempts + 1 then ev.mark (.undeliverable side) else ev := by
  simp only [failedEvents, h, leaves_unmarked h, decide_eq_true_eq]

/-- The flags set after the frame's leaving. -/
theorem failedEvents_has (limit : Nat) (ev : Events) (f : Flag) :
    (failedEvents limit side x ev).has f = true ↔
      ev.has f = true ∨ (f = .undeliverable side ∧ x.mark = .none ∧ leaves limit x = true) ∨
        (f = .staleDrop ∧ x.mark = .stale) := by
  unfold failedEvents
  cases x.mark
  case none => dsimp only; split <;> simp_all [Events.has_mark]
  all_goals simp [Events.has_mark]

/-- A leaving that sets no flag. -/
theorem failedEvents_none {limit : Nat} {ev : Events}
    (h : x.mark = .none ∧ x.attempts + 1 ≤ limit ∨ x.mark = .cancelled ∨ x.mark = .isolated) :
    failedEvents limit side x ev = ev := by
  rcases h with ⟨unmarked, within⟩ | m | m
  · rw [failedEvents_unmarked unmarked, if_neg (Nat.not_lt.2 within)]
  · simp only [failedEvents, m]
  · simp only [failedEvents, m]

/-- The frame's leaving sets its flag and makes no report. -/
@[simp] theorem failedEvents_reports (limit : Nat) (ev : Events) :
    (failedEvents limit side x ev).reports = ev.reports := by
  unfold failedEvents
  repeat' split
  all_goals rfl

@[simp] theorem failedEvents_enables (limit : Nat) (ev : Events) :
    (failedEvents limit side x ev).enables = ev.enables := by
  unfold failedEvents
  repeat' split
  all_goals rfl

theorem failedQueue_length (limit : Nat) (pre : List QFrame) (x : QFrame) (post : List QFrame) :
    (failedQueue limit pre x post).length = pre.length + post.length + if leaves limit x then 0 else 1 := by
  unfold failedQueue
  split
  · simp
  · simp; omega

/-- The outcomes that are failures (R81, R102). -/
def Fails (o : LineOutcome) : Prop := o = .noack ∨ o = .lineError

theorem countQueue_id (s : State) : s.countQueue side (fun c => c) = s := by
  unfold State.countQueue
  rw [PerSide.modify_id]

/-- The fate of a frame whose attempt failed, where no report can be made. -/
theorem settleFrame_failed (unreported : s.agent.params.reportStation = stationNone) (fails : Fails o)
    (h : OnLine (s.queues.frames.get side) pre x post) :
    s.settleFrame side o pre.length x =
      { (s.onQueue side fun _ => failedQueue s.agent.params.retryLimit pre x post).countQueue side
          (failedCount s.agent.params.retryLimit x) with
        events := failedEvents s.agent.params.retryLimit side x s.events } := by
  have same : s.settleFrame side o pre.length x =
      if x.mark = .none then s.failFrame side pre.length x
      else (s.onQueue side (·.eraseIdx pre.length)).removedUnder side x.mark := by
    rcases fails with rfl | rfl <;> rfl
  rw [same]
  split
  · next unmarked =>
    have lets := leaves_unmarked (limit := s.agent.params.retryLimit) unmarked
    rw [failedEvents_unmarked unmarked]
    unfold State.failFrame failedQueue
    split
    · next past =>
      rw [lets, if_pos (decide_eq_true past), failedCount_past unmarked past, h.onQueue_erased]
      unfold State.setFlag
      congr 1
      exact Events.setFlag_unreported _ _ _ _ unreported
    · next within =>
      rw [lets, if_neg (by simpa using within), failedCount_stays unmarked within, h.requeued]
      exact (countQueue_id _).symm
  · next marked =>
    rw [h.onQueue_erased, removedUnder_unreported (s := s.onQueue side fun _ => pre ++ post) unreported,
      failedCount_marked marked, failedEvents_marked marked, failedQueue, leaves_marked marked]
    rfl

/-- NOACK, LINE_ERROR and the end of the line wait are the end of an attempt (R100, R101). -/
theorem exec_failed {row : Instr} {a : Attempt} (run : s.phase = .running)
    (attempt : (s.ports.get side).attempt = some a)
    (is : (row = .attemptCompletion side .noack ∧ o = .noack) ∨
      (row = .attemptCompletion side .lineError ∧ o = .lineError) ∨
      (row = .lineWaitExpiry side ∧ o = .lineError ∧ reached s.now a.lineWait = true)) :
    Fails o ∧ exec row s = .next (s.endAttempt side o).settle := by
  have event : ∀ f : State → State, s.event f = (f s).settle := fun f => if_pos (by simp [State.running, run])
  rcases is with ⟨rfl, rfl⟩ | ⟨rfl, rfl⟩ | ⟨rfl, rfl, past⟩
  · exact ⟨.inl rfl, congrArg Host.Outcome.next (event _)⟩
  · exact ⟨.inr rfl, congrArg Host.Outcome.next (event _)⟩
  · refine ⟨.inr rfl, congrArg Host.Outcome.next ((event _).trans ?_)⟩
    simp only [Port.lineWaitOver, attempt, past, if_true]

/-! ## Below 192 (R104) -/

/-- A failed attempt adds 8 to the score, which is not above 255 (R102). -/
theorem completed_failed {p : Port} (fails : Fails o) (low : p.score + 8 ≤ 255) :
    Port.completed o p = { p with attempt := none, score := p.score + 8, counters := p.counters.count o } := by
  have score : min (p.score + 8) 255 = p.score + 8 := Nat.min_eq_left low
  rcases fails with rfl | rfl <;> simp only [Port.completed, movedScore, Config.scoreFailure, Config.scoreTop, score]

/-- The count of a failure is not that of an entry into WARNED. -/
theorem count_warnedEntry (fails : Fails o) (c : PortCounters) : (c.count o).warnedEntry = c.warnedEntry := by
  rcases fails with rfl | rfl <;> rfl

/-- The port after a failed attempt that leaves the side ACTIVE or WARNED. -/
def failedPort (o : LineOutcome) (p : Port) : Port :=
  { p with
    state := if 96 ≤ p.score + 8 then .warned else p.state
    score := p.score + 8
    attempt := none
    counters :=
      { p.counters.count o with
        warnedEntry :=
          if p.state = .active ∧ 96 ≤ p.score + 8 then bump p.counters.warnedEntry else p.counters.warnedEntry } }

/-- The side state after a failed attempt below 192: an ACTIVE side at 96 is WARNED. -/
theorem failed_testSide (unreported : s.agent.params.reportStation = stationNone) (fails : Fails o)
    (accepts : (s.ports.get side).state.accepts = true)
    (fits : (s.ports.get side).state.fits (s.ports.get side).score) (low : (s.ports.get side).score + 8 < 192) :
    (s.onPort side (Port.completed o)).testSide side =
      { s.onPort side (failedPort o) with
        events :=
          if (s.ports.get side).state = .active ∧ 96 ≤ (s.ports.get side).score + 8 then
            s.events.mark (.warned side)
          else s.events } := by
  have ended := completed_failed (p := s.ports.get side) fails (by omega)
  have here : (s.onPort side (Port.completed o)).ports.get side = _ := (PerSide.get_modify _ _ _).trans ended
  by_cases warns : (s.ports.get side).state = .active ∧ 96 ≤ (s.ports.get side).score + 8
  · rw [testSide_warns (by rw [here]; exact warns.1) (by rw [here]; exact warns.2) (by rw [here]; exact low),
      if_pos warns]
    unfold State.enterWarned
    rw [onPort_onPort, onPort_congr (g := failedPort o)]
    · unfold State.setFlag
      congr 1
      exact Events.setFlag_unreported _ _ _ _ unreported
    · simp only [ended, failedPort, warns, and_self, if_true, count_warnedEntry fails]
  · have stays : (if 96 ≤ (s.ports.get side).score + 8 then SideState.warned else (s.ports.get side).state) =
        (s.ports.get side).state := by
      split
      · next high =>
        cases state : (s.ports.get side).state with
        | active => exact absurd ⟨state, high⟩ warns
        | warned => rfl
        | silent | off => rw [state] at accepts; cases accepts
      · rfl
    rw [if_neg warns, testSide_fits (by rw [here]; exact accepts)]
    · refine onPort_congr ?_
      rw [ended]
      simp only [failedPort, stays, if_neg warns]
      rw [← count_warnedEntry fails]
    · rw [here]
      change (s.ports.get side).state.fits ((s.ports.get side).score + 8)
      cases state : (s.ports.get side).state <;> rw [state] at accepts fits
      case active => exact Nat.lt_of_not_le fun h => warns ⟨state, h⟩
      case warned => exact ⟨Nat.lt_of_lt_of_le fits.1 (Nat.le_add_right _ 8), low⟩
      all_goals cases accepts

/-- A failed attempt below 192, where no report can be made. -/
theorem endAttempt_failed {a : Attempt} (unreported : s.agent.params.reportStation = stationNone) (fails : Fails o)
    (attempt : (s.ports.get side).attempt = some a) (accepts : (s.ports.get side).state.accepts = true)
    (fits : (s.ports.get side).state.fits (s.ports.get side).score) (low : (s.ports.get side).score + 8 < 192)
    (h : OnLine (s.queues.frames.get side) pre x post) :
    s.endAttempt side o =
      { ((s.onQueue side fun _ => failedQueue s.agent.params.retryLimit pre x post).countQueue side
          (failedCount s.agent.params.retryLimit x)).onPort side (failedPort o) with
        events :=
          if (s.ports.get side).state = .active ∧ 96 ≤ (s.ports.get side).score + 8 then
            (failedEvents s.agent.params.retryLimit side x s.events).mark (.warned side)
          else failedEvents s.agent.params.retryLimit side x s.events } :=
  (endAttempt_fate (by rw [attempt]; rfl) h (settleFrame_failed unreported fails h)).trans
    (failed_testSide unreported fails accepts fits low)

/-! ## From 192 (R106) -/

/-- The port after a failed attempt that takes the side to SILENT. -/
def silencedPort (p : Params) (now : CTime) (o : LineOutcome) (x : Port) : Port :=
  { x with
    state := .silent
    score := min (x.score + 8) 255
    attempt := none
    recovery := if p.autoRecover = 0 then none else some (now + p.autoRecover.setWidth 32)
    counters := { x.counters.count o with silentEntry := bump x.counters.silentEntry } }

/-- The side state after a failed attempt from 192: the side is SILENT and its queue is purged (R88). -/
theorem silenced_testSide (unreported : s.agent.params.reportStation = stationNone) (fails : Fails o)
    (accepts : (s.ports.get side).state.accepts = true) (high : 192 ≤ (s.ports.get side).score + 8) :
    (s.onPort side (Port.completed o)).testSide side =
      { ((s.onQueue side fun _ => []).countQueue side fun c =>
            { c with purgedSilent := satAdd c.purgedSilent (s.queues.frames.get side).length }).onPort side
          (silencedPort s.agent.params s.now o) with
        events := s.events.mark (.silent side) } := by
  have here : ((s.onPort side (Port.completed o)).ports.get side) = Port.completed o (s.ports.get side) := by simp
  have score : (Port.completed o (s.ports.get side)).score = min ((s.ports.get side).score + 8) 255 := by
    rcases fails with rfl | rfl <;> rfl
  rw [testSide_silences (by rw [here]; exact accepts) (by rw [here, score]; omega)]
  unfold State.enterSilent
  dsimp only
  rw [onPort_onPort, onPort_congr (g := silencedPort s.agent.params s.now o)]
  · have flag : s.events.setFlag s.agent.params s.now (.silent side) = s.events.mark (.silent side) :=
      Events.setFlag_unreported _ _ _ _ unreported
    rw [← flag]
    rfl
  · rcases fails with rfl | rfl <;> rfl

theorem failedCount_purgedSilent (limit : Nat) (x : QFrame) (c : QueueCounters) :
    (failedCount limit x c).purgedSilent = c.purgedSilent := by
  unfold failedCount
  repeat' split
  all_goals rfl

/-- A failed attempt from 192, where no report can be made: the fate of the frame, then the purge. -/
theorem endAttempt_silenced {a : Attempt} (unreported : s.agent.params.reportStation = stationNone) (fails : Fails o)
    (attempt : (s.ports.get side).attempt = some a) (accepts : (s.ports.get side).state.accepts = true)
    (high : 192 ≤ (s.ports.get side).score + 8) (h : OnLine (s.queues.frames.get side) pre x post) :
    s.endAttempt side o =
      { ((s.onQueue side fun _ => []).countQueue side fun c =>
            { failedCount s.agent.params.retryLimit x c with
              purgedSilent :=
                satAdd c.purgedSilent
                  (pre.length + post.length + if leaves s.agent.params.retryLimit x then 0 else 1) }).onPort side
          (silencedPort s.agent.params s.now o) with
        events := (failedEvents s.agent.params.retryLimit side x s.events).mark (.silent side) } := by
  refine ((endAttempt_fate (by rw [attempt]; rfl) h (settleFrame_failed unreported fails h)).trans
    (silenced_testSide unreported fails accepts high)).trans ?_
  simp only [State.onQueue, State.countQueue, PerSide.modify_modify, PerSide.get_modify, failedQueue_length,
    failedCount_purgedSilent]
  rfl

/-! ## The two rows -/

/-- Settles O26: the fate of the frame and the port in one equation, read clause by clause. -/
theorem failedAttempts : Obligations.FailedAttempts := by
  unfold Obligations.FailedAttempts
  intro side o row pre post x a s run unreported attempt is accepts fits low split onLine before
  have h : OnLine (s.queues.frames.get side) pre x post := ⟨split, onLine, before⟩
  obtain ⟨fails, next⟩ := exec_failed run attempt is
  set limit := s.agent.params.retryLimit with is_limit
  have ended := endAttempt_failed unreported.2 fails attempt accepts fits low h
  set t := s.endAttempt side o
  have reports : t.events.reports = s.events.reports := by
    rw [ended]; dsimp only; split <;> simp
  rw [State.settle_of_quiet ((State.quiet_congr reports).2 unreported.1)] at next
  have ports : t.ports = s.ports.modify side (failedPort o) := by rw [ended]; rfl
  have queue : t.queues.frames.get side = failedQueue limit pre x post := by rw [ended]; simp [is_limit]
  have count : t.queues.counters.get side = failedCount limit x (s.queues.counters.get side) := by
    rw [ended]; simp [is_limit]
  have flags : ∀ f, t.events.has f = true ↔
      (failedEvents limit side x s.events).has f = true ∨
        (f = .warned side ∧ (s.ports.get side).state = .active ∧ 96 ≤ (s.ports.get side).score + 8) := by
    intro f
    rw [ended]
    dsimp only
    split
    · next warns => simp [Events.has_mark, warns.1, warns.2, is_limit]
    · next still => simp only [still, and_false, or_false, is_limit]
  refine ⟨t, next, ports, fun active high => ?_, fun unmarked within => ⟨?_, ?_⟩,
    fun unmarked past => ⟨?_, ?_, ?_⟩, fun marked => ⟨?_, fun stale => ?_, ?_, ?_⟩,
    ?_, ?_, fun still silent => ?_, fun f notWarned notLost notStale => ?_,
    reports, ?_, ?_⟩
  · exact (flags _).2 (.inr ⟨rfl, active, high⟩)
  · rw [queue, failedQueue, leaves_unmarked unmarked, if_neg (by simpa using within)]
  · rw [ended, failedCount_stays unmarked (Nat.not_lt.2 within), countQueue_id]
    rfl
  · rw [queue, failedQueue, leaves_unmarked unmarked, if_pos (decide_eq_true past)]
  · have left : leaves limit x = true := (leaves_unmarked unmarked).trans (decide_eq_true past)
    exact (flags _).2 (.inl ((failedEvents_has _ _ _).2 (.inr (.inl ⟨rfl, unmarked, left⟩))))
  · rw [count, failedCount_past unmarked past]
  · rw [queue, failedQueue, leaves_marked marked, if_pos rfl]
  · exact (flags _).2 (.inl ((failedEvents_has _ _ _).2 (.inr (.inr ⟨rfl, stale⟩))))
  · rw [Bool.eq_iff_iff, flags, failedEvents_has]
    simp [marked]
  · rw [count, failedCount_marked marked]
    rfl
  · rw [ended]; simp
  · rw [ended]; simp
  · have calm : ¬((s.ports.get side).state = .active ∧ 96 ≤ (s.ports.get side).score + 8) := by
      rintro ⟨active, high⟩
      rcases still with warned | below
      · rw [active] at warned; cases warned
      · omega
    rw [ended]
    dsimp only
    rw [if_neg calm, failedEvents_none silent]
  · rw [Bool.eq_iff_iff, flags, failedEvents_has]
    have kept : ¬(f = .staleDrop ∧ x.mark = .stale) :=
        fun ⟨dropped, stale⟩ => notStale.elim (· dropped) (· stale)
    simp [notWarned, notLost, kept]
  · rw [ended]; dsimp only; split <;> simp
  · rw [ended]; exact ⟨rfl, rfl, rfl, rfl, rfl, rfl⟩

/-- Settles O27: the fate of the frame first, then the purge of what is left of the queue. -/
theorem failingSidesFallSilent : Obligations.FailingSidesFallSilent := by
  unfold Obligations.FailingSidesFallSilent
  intro side o row pre post x a s run unreported attempt is accepts high split onLine before
  have h : OnLine (s.queues.frames.get side) pre x post := ⟨split, onLine, before⟩
  obtain ⟨fails, next⟩ := exec_failed run attempt is
  have ended := endAttempt_silenced unreported.2 fails attempt accepts high h
  have reports : (s.endAttempt side o).events.reports = s.events.reports := by
    rw [ended]; simp
  rw [next, State.settle_of_quiet ((State.quiet_congr reports).2 unreported.1), ended]
  rfl

end Sys2Proof.Machine.AttemptLaws
end

section
/-! AGE_DEADLINE and CANCEL_TAG (R83, R85, R86), and SIDE_CONTROL OFF and ON (R89, R109, R110). -/

namespace Sys2Proof.Machine.RemovalLaws

open DeliveryLaws AttemptLaws EgressLaws ReadLaws

variable {s : State} {m : Arrival} {seq : Byte} {side : Side} {x : QFrame}

/-! ## AGE_DEADLINE (R83) -/

/-- A frame whose age deadline is reached expires. -/
theorem ageOut_due {place : Nat} (found : (s.queues.frames.get side)[place]? = some x)
    (past : due s.now x.ageDeadline = true) : s.ageOut side place = s.expire side place := by
  unfold State.ageOut
  simp only [found]
  exact if_pos past

theorem expire_waiting {place : Nat} (found : (s.queues.frames.get side)[place]? = some x) (waits : x.onLine = false) :
    s.expire side place = (s.onQueue side (·.eraseIdx place)).removedUnder side .stale := by
  unfold State.expire
  simp only [found]
  exact if_neg (by simp [waits])

theorem expire_onLine {place : Nat} (found : (s.queues.frames.get side)[place]? = some x) (onLine : x.onLine = true) :
    s.expire side place =
      s.onQueue side fun q => q.set place { x with mark := if x.mark = .none then .stale else x.mark } := by
  have marked : x.marked .stale = { x with mark := if x.mark = .none then .stale else x.mark } := by
    unfold QFrame.marked
    split <;> rfl
  unfold State.expire
  simp only [found]
  refine (if_pos onLine).trans (onQueue_congr ?_)
  rw [← marked, List.modify_eq_set_getElem?, found]
  rfl

/-! ## CANCEL_TAG (R86) -/

/-- A queue after CANCEL_TAG: searched if it is named, else left. -/
def cancelled (named : Bool) (tag : Tag) (q : List QFrame) : List QFrame :=
  (q.filter fun y => !(named && y.frame.carries tag && !y.onLine)).map fun y =>
    if named && y.frame.carries tag && y.onLine && y.mark == .none then { y with mark := .cancelled } else y

/-- The frames that CANCEL_TAG removes from a queue. -/
def gone (named : Bool) (tag : Tag) (q : List QFrame) : List QFrame :=
  q.filter fun y => named && y.frame.carries tag && !y.onLine

/-- The frames that CANCEL_TAG marks in a queue. -/
def marks (named : Bool) (tag : Tag) (q : List QFrame) : List QFrame :=
  q.filter fun y => named && y.frame.carries tag && y.onLine && y.mark == .none

@[simp] theorem cancelled_false (tag : Tag) (q : List QFrame) : cancelled false tag q = q := by simp [cancelled]
@[simp] theorem gone_false (tag : Tag) (q : List QFrame) : gone false tag q = [] := by simp [gone]
@[simp] theorem marks_false (tag : Tag) (q : List QFrame) : marks false tag q = [] := by simp [marks]

theorem cancelled_length (named : Bool) (tag : Tag) (q : List QFrame) :
    (cancelled named tag q).length ≤ q.length := by
  rw [cancelled, List.length_map]
  exact List.length_filter_le _ q

/-- One queue searched: what is kept, removed and marked. -/
theorem cancelIn_eq (s : State) (side : Side) (tag : Tag) :
    s.cancelIn side tag =
      ((s.onQueue side (cancelled true tag)).countQueue side fun c =>
          { c with cancelled := satAdd c.cancelled (gone true tag (s.queues.frames.get side)).length },
        (gone true tag (s.queues.frames.get side)).length, (marks true tag (s.queues.frames.get side)).length) := by
  have kept : s.onQueue side (cancelled true tag) = s.onQueue side fun _ =>
      ((s.queues.frames.get side).filter fun y => !y.cancels tag).map fun y =>
        if y.cancelMarks tag then y.marked .cancelled else y := by
    refine onQueue_congr (List.map_congr_left fun y _ => ?_)
    unfold QFrame.cancelMarks QFrame.marked
    cases mark : y.mark <;> simp
  rw [kept]
  simp only [State.cancelIn, gone, marks, ← List.countP_eq_length_filter, Bool.true_and]
  rfl

/-- One queue after CANCEL_TAG: its frames kept, and those removed counted. -/
def searched (side : Side) (named : Bool) (tag : Tag) (s : State) : State :=
  (s.onQueue side (cancelled named tag)).countQueue side fun c =>
    { c with cancelled := satAdd c.cancelled (gone named tag (s.queues.frames.get side)).length }

/-- A queue that is not named is left. -/
theorem searched_false (s : State) (side : Side) (tag : Tag) : searched side false tag s = s := by
  have queue : s.onQueue side (cancelled false tag) = s := by
    rw [onQueue_congr (g := fun q => q) (cancelled_false tag _)]
    unfold State.onQueue
    rw [PerSide.modify_id]
  rw [searched, queue]
  simp only [gone_false, List.length_nil, satAdd_zero]
  exact countQueue_id s

/-- The sides that a code of Table 12-3 names: A, B or both. -/
def namedBy (sides : Byte) (side : Side) : Bool := sides == 2 || sides == side.code

/-- CANCEL_TAG in the queues it names: what it leaves, and the two numbers it answers (R86). -/
theorem cancelTag_eq (s : State) (tag : Tag) {sides : Byte} (h : sides = 0 ∨ sides = 1 ∨ sides = 2) :
    s.cancelTag sides tag =
      (searched .b (namedBy sides .b) tag (searched .a (namedBy sides .a) tag s), okReply
        [countByte ((gone (namedBy sides .a) tag s.queues.frames.a).length +
            (gone (namedBy sides .b) tag s.queues.frames.b).length),
          countByte ((marks (namedBy sides .a) tag s.queues.frames.a).length +
            (marks (namedBy sides .b) tag s.queues.frames.b).length)]) := by
  rcases h with rfl | rfl | rfl
  · rw [State.cancelTag, if_pos rfl, cancelIn_eq, show namedBy 0 .a = true from rfl,
      show namedBy 0 .b = false from rfl,
      searched_false, gone_false, marks_false]
    rfl
  · rw [State.cancelTag, if_neg (by decide), if_pos rfl, cancelIn_eq, show namedBy 1 .a = false from rfl,
      show namedBy 1 .b = true from rfl, searched_false, gone_false, marks_false, List.length_nil, Nat.zero_add,
      Nat.zero_add]
    rfl
  · rw [State.cancelTag, if_neg (by decide), if_neg (by decide), if_pos rfl, cancelIn_eq]
    dsimp only
    rw [cancelIn_eq]
    rfl

/-- Settles O23: the frame that expires, and the two queues that CANCEL_TAG searches. -/
theorem staleAndCancelledFramesLeave : Obligations.StaleAndCancelledFramesLeave := by
  unfold Obligations.StaleAndCancelledFramesLeave
  refine ⟨?_, ?_⟩
  · intro side place x s run found past
    have aged := ageOut_due found past
    refine ⟨fun waits ⟨quiet, unreported⟩ => ?_, fun onLine quiet => ?_⟩
    · have left := removedUnder_unreported (s := s.onQueue side (·.eraseIdx place)) unreported side .stale
      rw [← expire_waiting found waits, ← aged] at left
      change Host.Outcome.next (s.event (State.ageOut side place)) = _
      rw [event_quiet run (by rw [left]; exact (State.quiet_congr rfl).2 quiet), left]
      rfl
    · have marked := aged.trans (expire_onLine found onLine)
      change Host.Outcome.next (s.event (State.ageOut side place)) = _
      rw [event_quiet run (by rw [marked]; exact (State.quiet_congr rfl).2 quiet), marked]
  · intro m seq h md l sides tag x s hears quiet room arg is
    have rule : (cancelTagCommand [h, md, l, sides]).run (s.delivered m) = (s.delivered m).cancelTag sides tag := by
      simp only [cancelTagCommand, ownerCommand, arg]
    have run := rule.trans (cancelTag_eq (s.delivered m) tag is)
    set u := searched .b (namedBy sides .b) tag (searched .a (namedBy sides .a) tag (s.delivered m)) with hu
    have fewer : ∀ sd, (u.queues.frames.get sd).length ≤ (s.queues.frames.get sd).length := by
      intro sd
      cases sd <;> exact cancelled_length _ tag _
    have roomy : u.Room m.side := by
      obtain ⟨takes, below, slot⟩ := delivered_room (m := m) room
      exact ⟨takes, Nat.lt_of_le_of_lt (fewer m.side) below,
        Nat.lt_of_le_of_lt (Nat.add_le_add (fewer .a) (fewer .b)) slot⟩
    obtain ⟨new, owned⟩ := HearsOwner.lets hears
    obtain ⟨heard, session, owner, -⟩ := hears
    have next := addressed_room (args := [h, md, l, sides]) heard new (fun _ => owned) rfl run
      ((State.quiet_congr rfl).2 quiet) roomy
    refine ⟨_, next, ?_, ?_⟩
    · rw [State.answeredBy, keepResponse_owner (s := u) _ session owner]
      simp only [State.queueResponse, State.steady_enqueue, State.steady_withSession, hu, searched,
        State.steady_countQueue, State.steady_onQueue, State.steady_delivered]
      rfl
    · rw [State.answeredBy, keepResponse_owner (s := u) _ session owner]
      rfl

end Sys2Proof.Machine.RemovalLaws
end

section
/-! SIDE_CONTROL OFF and ON (R89, R109, R110): the side emptied and stopped, or started, and what the answer, which may
find its own side OFF, leaves of it. -/

namespace Sys2Proof.Machine.SideLaws

open DeliveryLaws AttemptLaws EgressLaws QueueLaws ReadLaws

variable {s t u : State} {m : Arrival} {seq : Byte} {side : Side} {x : Session}

/-! ## A side that takes no frames -/

/-- From `s` to `t` nothing was queued toward a side, and no frame of it was counted *purged-off*. -/
structure Shut (side : Side) (s t : State) : Prop where
  ports : t.ports = s.ports
  queue : t.queues.frames.get side = s.queues.frames.get side
  count : (t.queues.counters.get side).purgedOff = (s.queues.counters.get side).purgedOff

theorem Shut.trans (h : Shut side s t) (k : Shut side t u) : Shut side s u :=
  ⟨k.ports.trans h.ports, k.queue.trans h.queue, k.count.trans h.count⟩

/-- No admission reaches a side that takes no frames. -/
theorem admit_shut (stopped : (s.ports.get side).state.accepts = false) (toward : Side) (f : Frame) :
    Shut side s (s.admitFrame toward f).1 := by
  rcases Side.eq_or_far toward side with rfl | rfl
  · rw [admit_notAccepting stopped]
    exact ⟨rfl, rfl, by simp⟩
  · unfold State.admitFrame
    repeat' split
    all_goals exact ⟨rfl, by simp [State.enqueue], by simp [State.enqueue]⟩

theorem settle_shut (stopped : (s.ports.get side).state.accepts = false) : Shut side s s.settle := by
  have sent : ∀ u : State, (u.ports.get side).state.accepts = false → Shut side u u.sendDue := by
    intro u stopped
    unfold State.sendDue
    repeat' split
    · exact ⟨rfl, rfl, rfl⟩
    · exact ⟨rfl, rfl, rfl⟩
    · exact (admit_shut stopped _ _).trans ⟨rfl, rfl, rfl⟩
    · exact ⟨rfl, rfl, rfl⟩
  have fixed : Shut side s s.fixSnapshots := ⟨rfl, rfl, rfl⟩
  have due : Shut side s.fixSnapshots s.settle := (sent s.fixSnapshots stopped).trans ⟨rfl, rfl, rfl⟩
  exact fixed.trans due

theorem respond_shut (stopped : (s.ports.get side).state.accepts = false) (r : Response) :
    Shut side s (s.respond m r) := by
  have admitted := admit_shut stopped m.side (responseFrame s.agent.params m.source r)
  unfold State.respond
  split
  · next eq => rw [eq] at admitted; exact admitted
  · next eq => rw [eq] at admitted; exact admitted.trans ⟨rfl, rfl, rfl⟩

/-- The end of a command leaves a side that takes no frames as its rule has left it. -/
theorem finish_shut (stopped : (s.ports.get side).state.accepts = false) (r : Response) :
    Shut side s (s.finish true m r).settle := by
  have kept : Shut side s (s.keepResponse m r) := by
    unfold State.keepResponse
    repeat' split
    all_goals exact ⟨rfl, rfl, rfl⟩
  have still : ∀ {v w : State}, Shut side v w → (v.ports.get side).state.accepts = false →
      (w.ports.get side).state.accepts = false := fun h v => by rw [h.ports]; exact v
  have settled := kept.trans (settle_shut (still kept stopped))
  have answered := settled.trans (respond_shut (m := m) (still settled stopped) r)
  exact answered.trans (settle_shut (still answered stopped))

/-! ## The end of a command -/

/-- The end of an owner's command touches no port and no enable. -/
theorem finish_ports (s : State) (m : Arrival) (r : Response) :
    (s.finish true m r).settle.ports = s.ports ∧ (s.finish true m r).settle.events.enables = s.events.enables := by
  have kept : (s.keepResponse m r).ports = s.ports ∧ (s.keepResponse m r).events.enables = s.events.enables := by
    unfold State.keepResponse
    repeat' split
    all_goals exact ⟨rfl, rfl⟩
  have grown : ∀ {v w : State}, v.Grows w → w.ports = v.ports ∧ w.events.enables = v.events.enables := by
    rintro v w ⟨q, ev, rfl, -, e⟩
    exact ⟨rfl, e⟩
  have answered : ∀ v : State, (v.respond m r).ports = v.ports ∧
      (v.respond m r).events.enables = v.events.enables := by
    intro v
    obtain ⟨w, g, e⟩ := State.respond_cases (s := v) m r
    have same := grown g
    rcases e with e | e <;> rw [e] <;> exact same
  obtain ⟨p1, e1⟩ := grown (s.keepResponse m r).grows_settle
  obtain ⟨p2, e2⟩ := answered (s.keepResponse m r).settle
  obtain ⟨p3, e3⟩ := grown (State.grows_settle ((s.keepResponse m r).settle.respond m r))
  exact ⟨p3.trans (p2.trans (p1.trans kept.1)), e3.trans (e2.trans (e1.trans kept.2))⟩

/-- Where nothing is to settle, a response refused for its side sets no flag. -/
theorem finish_refused (quiet : s.Quiet) (stopped : (s.ports.get m.side).state.accepts = false) (r : Response) :
    (s.finish true m r).settle.events.flags = s.events.flags := by
  have kept : (s.keepResponse m r).ports = s.ports ∧ (s.keepResponse m r).events = s.events := by
    unfold State.keepResponse
    repeat' split
    all_goals exact ⟨rfl, rfl⟩
  obtain ⟨ports, events⟩ := kept
  have quiet1 : (s.keepResponse m r).Quiet := (State.quiet_congr (by rw [events])).2 quiet
  have refused : (s.keepResponse m r).respond m r =
      ((s.keepResponse m r).countQueue m.side fun c => { c with notAccepting := bump c.notAccepting }).countAgent
        fun c => { c with responseLost := bump c.responseLost } := by
    unfold State.respond
    rw [admit_notAccepting (by rw [ports]; exact stopped)]
  have quiet2 : ((s.keepResponse m r).respond m r).Quiet := by
    rw [refused]; exact (State.quiet_congr rfl).2 quiet1
  unfold State.finish
  simp only [if_true, State.settle_of_quiet quiet1, State.settle_of_quiet quiet2]
  rw [refused]
  exact congrArg Events.flags events

/-- What delivering a message leaves of a port: all but the acknowledgement and *received-good*. -/
theorem delivered_port (s : State) (m : Arrival) (side : Side) :
    ((s.delivered m).ports.get side).view = (s.ports.get side).view ∧
      ((s.delivered m).ports.get side).counters.aborted = (s.ports.get side).counters.aborted := by
  change ((s.ports.modify m.side _).get side).view = _ ∧ ((s.ports.modify m.side _).get side).counters.aborted = _
  rw [PerSide.get_modify_at]
  split <;> exact ⟨rfl, rfl⟩

/-! ## OFF (R89, R109) -/

/-- The port of a side that is made OFF. -/
def stoppedPort (p : Port) : Port := { aborted p with state := .off, recovery := none }

/-- A side made OFF: its queue emptied and counted, its port stopped. -/
theorem sideOff_eq (s : State) (side : Side) :
    s.sideOff side =
      ((s.onQueue side fun _ => []).countQueue side fun c =>
        { c with purgedOff := satAdd c.purgedOff (s.queues.frames.get side).length }).onPort side stoppedPort := by
  unfold State.sideOff
  rw [abortAttempt_eq]
  exact onPort_onPort (s := (s.onQueue side fun _ => []).countQueue side _) aborted _

/-- SIDE_CONTROL OFF of a side that is not OFF. -/
theorem sideControl_off (on : (s.ports.get side).state ≠ .off) :
    (sideControlCommand [side.code, 0]).run s =
      (s.sideOff side, ⟨.ok, [side.code, 3, countByte (s.ports.get side).score]⟩) := by
  have acts : s.sideAction side .off = some (s.sideOff side) := by
    unfold State.sideAction
    cases state : (s.ports.get side).state <;> simp_all
  have port : (s.sideOff side).ports.get side = stoppedPort (s.ports.get side) := by rw [sideOff_eq]; simp
  have run : (sideControlCommand [side.code, 0]).run s = runSideControl side .off s := by
    simp only [sideControlCommand, ownerCommand, ofCode_code]
    rfl
  rw [run, runSideControl, acts]
  simp only [State.sideReply, port]
  rfl

/-- SIDE_CONTROL ON of an OFF side. -/
theorem sideControl_on (off : (s.ports.get side).state = .off) :
    (sideControlCommand [side.code, 1]).run s = (s.sideOn side, ⟨.ok, [side.code, 0, 0]⟩) := by
  have acts : s.sideAction side .on = some (s.sideOn side) := by
    unfold State.sideAction
    rw [off]
  have run : (sideControlCommand [side.code, 1]).run s = runSideControl side .on s := by
    simp only [sideControlCommand, ownerCommand, ofCode_code]
    rfl
  rw [run, runSideControl, acts]
  have port : (s.sideOn side).ports.get side =
      { s.ports.get side with state := .active, score := 0 } := by
    simp [State.sideOn]
  simp only [State.sideReply, port]
  rfl

/-! ## The two rows -/

/-- What is left of a side made OFF, whatever the response and the reports meet. -/
theorem sideOff_lasts (s : State) (m : Arrival) (side : Side) (r : Response) :
    Shut side (s.sideOff side) ((s.sideOff side).finish true m r).settle :=
  finish_shut (by rw [sideOff_eq]; simp [stoppedPort, SideState.accepts]) r

/-- A command's response has its room where a side other than its own is emptied. -/
theorem sideOff_room (room : s.Room m.side) (other : side ≠ m.side) : (s.sideOff side).Room m.side := by
  have away : m.side = side.far := (Side.eq_or_far m.side side).resolve_left other.symm
  rw [away] at room ⊢
  obtain ⟨takes, below, slot⟩ := room
  rw [frames_length s side] at slot
  rw [sideOff_eq]
  refine ⟨by simpa using takes, by simpa using below, ?_⟩
  rw [frames_length _ side]
  simp only [State.onPort_queues, State.countQueue_queues, State.onQueue_queues, PerSide.get_modify,
    PerSide.get_far_modify, List.length_nil]
  omega

/-- A rule that changes the ports alone, and the session kept after it. -/
theorem steady_of_ports {y : Option Session} (h : t.steady = { u.steady with session := y })
    (alone : u.steady = { s.steady with portA := u.ports.a.view, portB := u.ports.b.view }) :
    t.steady = { s.steady with portA := t.ports.a.view, portB := t.ports.b.view, session := y } := by
  have onA : t.ports.a.view = u.ports.a.view := congrArg Steady.portA h
  have onB : t.ports.b.view = u.ports.b.view := congrArg Steady.portB h
  rw [onA, onB, h, alone]

/-- Settles O29: OFF by what admission cannot reach, ON by the room on the side of the command. -/
theorem sideControlOffAndOn : Obligations.SideControlOffAndOn := by
  unfold Obligations.SideControlOffAndOn
  refine ⟨?_, ?_⟩
  · intro m seq side x s hears on
    obtain ⟨view, count⟩ := delivered_port s m side
    obtain ⟨viewFar, -⟩ := delivered_port s m side.far
    have state : ((s.delivered m).ports.get side).state = (s.ports.get side).state := congrArg PortView.state view
    have score : ((s.delivered m).ports.get side).score = (s.ports.get side).score := congrArg PortView.score view
    have run := sideControl_off (s := s.delivered m) (side := side) (by rw [state]; exact on)
    rw [score] at run
    set u := (s.delivered m).sideOff side with hu
    set r : Response := ⟨seq, 0x13, .ok, [side.code, 3, countByte (s.ports.get side).score]⟩
    have session : u.agent.session = some x := by rw [hu, sideOff_eq]; exact hears.2.1
    obtain ⟨new, owned⟩ := HearsOwner.lets hears
    have next : exec (.sideControlOff m seq side.code) s = .next (u.finish true m r).settle := by
      have e := addressed_owner (args := [side.code, 0]) (c := sideControlCommand [side.code, 0]) hears rfl
      rw [run] at e
      exact e
    have portsU : u.ports.get side = stoppedPort ((s.delivered m).ports.get side) := by rw [hu, sideOff_eq]; simp
    have farU : u.ports.get side.far = (s.delivered m).ports.get side.far := by rw [hu, sideOff_eq]; simp
    obtain ⟨ports, enables⟩ := finish_ports u m r
    obtain ⟨-, queue, purged⟩ := sideOff_lasts (s.delivered m) m side r
    have quietU : s.Quiet → u.Quiet := fun quiet => (State.quiet_congr (by rw [hu, sideOff_eq]; rfl)).2 quiet
    have only_answered :
        s.Quiet → s.Room m.side → side ≠ m.side → (u.finish true m r).settle = u.answeredBy m r := by
      intro quiet room other
      have e := addressed_room (args := [side.code, 0]) (c := sideControlCommand [side.code, 0]) hears.1 new
        (fun _ => owned) rfl run (quietU quiet) (sideOff_room (delivered_room (m := m) room) other)
      exact Host.Outcome.next.inj (next.symm.trans e)
    refine ⟨_, next, ?_, ?_, ?_, ?_, ?_, ?_, ?_, ?_, ?_⟩
    · rw [queue, sideOff_eq]; simp
    · rw [ports, portsU, ← view]; rfl
    · rw [ports, farU, viewFar]
    · have attempt : ((s.delivered m).ports.get side).attempt = (s.ports.get side).attempt :=
        congrArg PortView.attempt view
      rw [ports, portsU, stoppedPort, aborted]
      dsimp only
      rw [attempt, count]
    · rw [purged, sideOff_eq]
      simp only [State.onPort_queues, State.countQueue_queues, PerSide.get_modify]
      rfl
    · rw [enables, hu, sideOff_eq]; rfl
    · intro quiet room
      have flags : u.events.flags = s.events.flags := by rw [hu, sideOff_eq]; rfl
      by_cases here : side = m.side
      · refine (finish_refused (quietU quiet) ?_ r).trans flags
        rw [← here, portsU]
        rfl
      · rw [only_answered quiet room here, State.answeredBy, keepResponse_owner (s := u) r session hears.2.2.1]
        exact flags
    · intro quiet room other
      rw [only_answered quiet room other, State.answeredBy, keepResponse_owner (s := u) r session hears.2.2.1, hu,
        sideOff_eq]
      cases side <;> rfl
    · obtain ⟨t, e, steady, -⟩ := addressed_owner_steady (args := [side.code, 0]) hears rfl run session hears.2.2.1
      obtain rfl : (u.finish true m r).settle = t := Host.Outcome.next.inj (next.symm.trans e)
      have now : u.now = s.now := by rw [hu, sideOff_eq]; rfl
      rw [now] at steady
      refine steady_of_ports steady ?_
      rw [hu, sideOff_eq, ← State.steady_delivered s m]
      rfl
  · intro m seq side x s hears off
    obtain ⟨view, -⟩ := delivered_port s m side
    obtain ⟨viewFar, -⟩ := delivered_port s m side.far
    have state : ((s.delivered m).ports.get side).state = (s.ports.get side).state := congrArg PortView.state view
    have run := sideControl_on (s := s.delivered m) (side := side) (by rw [state]; exact off)
    set u := (s.delivered m).sideOn side with hu
    set r : Response := ⟨seq, 0x13, .ok, [side.code, 0, 0]⟩
    have session : u.agent.session = some x := hears.2.1
    obtain ⟨new, owned⟩ := HearsOwner.lets hears
    have next : exec (.sideControlOn m seq side.code) s = .next (u.finish true m r).settle := by
      have e := addressed_owner (args := [side.code, 1]) (c := sideControlCommand [side.code, 1]) hears rfl
      rw [run] at e
      exact e
    obtain ⟨ports, -⟩ := finish_ports u m r
    have away : side ≠ m.side := by
      rintro rfl
      exact hears.1.1.2.2 off
    refine ⟨_, next, fun unreported room => ?_, ?_, ?_, ?_⟩
    · have roomy : u.Room m.side := by
        obtain ⟨takes, below, slot⟩ := delivered_room (m := m) room
        have other : m.side = side.far := (Side.eq_or_far m.side side).resolve_left away.symm
        refine ⟨?_, below, slot⟩
        rw [other] at takes ⊢
        simpa [hu, State.sideOn] using takes
      have e := addressed_room (args := [side.code, 1]) (c := sideControlCommand [side.code, 1]) hears.1 new
        (fun _ => owned) rfl run ((State.quiet_congr rfl).2 unreported.1) roomy
      rw [Host.Outcome.next.inj (next.symm.trans e), State.answeredBy,
        keepResponse_owner (s := u) _ session hears.2.2.1]
      cases side <;> rfl
    · rw [ports, ← view, hu, State.sideOn, State.onPort_ports, PerSide.get_modify]; rfl
    · rw [ports, ← viewFar, hu, State.sideOn, State.onPort_ports, PerSide.get_far_modify]
    · obtain ⟨t, e, steady, -⟩ := addressed_owner_steady (args := [side.code, 1]) hears rfl run session hears.2.2.1
      obtain rfl : (u.finish true m r).settle = t := Host.Outcome.next.inj (next.symm.trans e)
      refine steady_of_ports steady ?_
      rw [hu, ← State.steady_delivered s m]
      rfl

end Sys2Proof.Machine.SideLaws
end

section
/-! Payloads (R96, R146): what each operation does to the payloads in the queues and the records. A payload comes into
the part with a received frame, which fits, or is composed by the coupler, within the bounds of spec/12. -/

namespace Sys2Proof.Machine.PayloadLaws

open AttemptLaws
open RecordLaws (Records getElem_set flush_records clearQueries_eq clearEntry)

/-! ## The invariant, part by part -/

/-- A payload fits a frame (R96). -/
abbrev Fits (p : Payload) : Prop := p.length ≤ Config.payload

/-- The payloads of a queue fit. -/
abbrev QueueFits (q : List QFrame) : Prop := ∀ x ∈ q, Fits x.frame.payload

/-- The values of a record fit. -/
abbrev RecordFits (r : Record) : Prop := (∀ v ∈ r.held, Fits v) ∧ ∀ v ∈ r.candidate, Fits v

/-- The values of all records fit. -/
abbrev RecordsFit (v : Records) : Prop := ∀ i : Fin 48, ∀ r ∈ v[i], RecordFits r

/-- Arguments of a message fit it (R146). -/
abbrev ArgsFit (args : Payload) : Prop := args.length ≤ Config.arguments

/-- An operation that keeps every payload within its bound. -/
def Keeps (f : State → State) : Prop := ∀ s : State, s.PayloadsOk → (f s).PayloadsOk

variable {s : State} {side : Side} {q : List QFrame} {x : QFrame}

theorem queue_fits (h : s.PayloadsOk) (side : Side) : QueueFits (s.queues.frames.get side) := by
  cases side
  · exact h.1.1
  · exact h.1.2

/-! ## Queues -/

theorem insertFrame_fits (h : QueueFits q) (fits : Fits x.frame.payload) : QueueFits (insertFrame x q) := by
  intro y hy
  rcases mem_insertFrame.1 hy with rfl | old
  · exact fits
  · exact h y old

theorem sublist_fits {q' : List QFrame} (h : QueueFits q) (sub : q'.Sublist q) : QueueFits q' :=
  fun y hy => h y (sub.subset hy)

/-- Frames changed in what is not of the frame itself. -/
theorem map_fits {g : QFrame → QFrame} (h : QueueFits q) (same : ∀ y, (g y).frame = y.frame) :
    QueueFits (q.map g) := by
  intro y hy
  obtain ⟨z, hz, rfl⟩ := List.mem_map.1 hy
  rw [same]
  exact h z hz

theorem set_fits {i : Nat} (h : QueueFits q) (fits : Fits x.frame.payload) : QueueFits (q.set i x) := by
  intro y hy
  rcases List.mem_or_eq_of_mem_set hy with old | rfl
  · exact h y old
  · exact fits

/-- A queue changed to one that fits. -/
theorem onQueue_ok (h : s.PayloadsOk) {f : List QFrame → List QFrame} (fits : QueueFits (f (s.queues.frames.get side))) :
    (s.onQueue side f).PayloadsOk := by
  obtain ⟨⟨onA, onB⟩, rest⟩ := h
  cases side
  · exact ⟨⟨fits, onB⟩, rest⟩
  · exact ⟨⟨onA, fits⟩, rest⟩

theorem removedUnder_keeps (side : Side) (m : Mark) : Keeps (State.removedUnder side m) := by
  intro s h
  cases m <;> exact h

/-- A frame taken out of its queue (R79, R85). -/
theorem erased_ok (h : s.PayloadsOk) (side : Side) (i : Nat) : (s.onQueue side (·.eraseIdx i)).PayloadsOk :=
  onQueue_ok h (sublist_fits (queue_fits h side) (List.eraseIdx_sublist _ i))

theorem modify_marked_fits (h : QueueFits q) (i : Nat) (m : Mark) : QueueFits (q.modify i (QFrame.marked m)) := by
  rw [List.modify_eq_set_getElem?]
  cases at_place : q[i]? with
  | none => exact h
  | some x => exact set_fits h (by rw [EgressLaws.marked_frame]; exact h x (List.mem_of_getElem? at_place))

/-- A frame expires (R83). -/
theorem expire_keeps (side : Side) (place : Nat) : Keeps (State.expire side place) := by
  intro s h
  unfold State.expire
  split
  · split
    · exact onQueue_ok h (modify_marked_fits (queue_fits h side) place .stale)
    · exact removedUnder_keeps side .stale _ (erased_ok h side place)
  · exact h

theorem expireOverAge_keeps (side : Side) (c : FClass) (n : Nat) : Keeps (State.expireOverAge side c n) := by
  intro s h
  induction n generalizing s with
  | zero => exact h
  | succ n ih =>
    unfold State.expireOverAge
    dsimp only
    refine ih _ ?_
    repeat' split
    · exact expire_keeps side n s h
    · exact h
    · exact h

theorem rereadAge_keeps (side : Side) (c : FClass) : Keeps (State.rereadAge side c) := fun s h =>
  expireOverAge_keeps side c _ _
    (onQueue_ok h (map_fits (queue_fits h side) fun y => by unfold QFrame.reread; split <;> rfl))

/-- Frames filtered and marked: the trip purge and CANCEL_TAG (R86, R91). -/
theorem filter_map_fits (h : QueueFits q) (keep marks : QFrame → Bool) (m : Mark) :
    QueueFits ((q.filter keep).map fun y => if marks y then y.marked m else y) :=
  map_fits (sublist_fits h List.filter_sublist) fun y => by split <;> simp

theorem tripPurge_keeps (side : Side) : Keeps (State.tripPurge side) := fun _ h =>
  onQueue_ok h (filter_map_fits (queue_fits h side) _ (·.frame.traffic) .isolated)

theorem cancelIn_ok (h : s.PayloadsOk) (side : Side) (t : Tag) : (s.cancelIn side t).1.PayloadsOk :=
  onQueue_ok h (filter_map_fits (queue_fits h side) _ (QFrame.cancelMarks t) .cancelled)

theorem purge_keeps (side : Side) (f : Nat → QueueCounters → QueueCounters) : Keeps (State.purge side f) := fun _ h =>
  onQueue_ok h (List.forall_mem_nil _)

/-- What changes the queues and the event unit alone, to queues that fit. -/
theorem grows_ok {t : State} (h : s.PayloadsOk) (g : s.Grows t) (fits : ∀ side, QueueFits (t.queues.frames.get side)) :
    t.PayloadsOk := by
  obtain ⟨q, ev, rfl, -⟩ := g
  exact ⟨⟨fits .a, fits .b⟩, h.2⟩

/-! ## Admission and the end of an event -/

/-- A frame that fits is queued. -/
theorem enqueue_ok (h : s.PayloadsOk) {f : Frame} (fits : Fits f.payload) : (s.enqueue side f).PayloadsOk :=
  onQueue_ok h (insertFrame_fits (queue_fits h side) fits)

/-- Admission of a frame that fits, whatever it decides (R75 to R77). -/
theorem admit_ok (h : s.PayloadsOk) (side : Side) {f : Frame} (fits : Fits f.payload) :
    (s.admitFrame side f).1.PayloadsOk := by
  unfold State.admitFrame
  repeat' split
  · exact h
  · exact h
  · exact enqueue_ok h fits
  · next i _ => exact enqueue_ok (s := (s.onQueue side (·.eraseIdx i)).countQueue side _) (erased_ok h side i) fits
  · exact h
  · exact h

/-- A report takes 12 bytes (Table 12-8). -/
theorem report_fits (p : Params) (r : Report) : Fits (r.frame p).payload := by
  simp [Report.frame, be16, be32, Config.payload]

theorem settle_keeps : Keeps State.settle := by
  have due : Keeps State.sendDue := by
    intro s h
    unfold State.sendDue
    repeat' split
    · exact h
    · exact h
    · exact admit_ok h _ (report_fits _ _)
    · exact h
  exact fun s h => due s.fixSnapshots h

theorem event_keeps {f : State → State} (hf : Keeps f) : Keeps (State.event f) := by
  intro s h
  unfold State.event
  split
  · exact settle_keeps _ (hf s h)
  · exact h

/-! ## Attempts -/

/-- The frame on the line leaves its queue or goes back to waiting (Table 4-3). -/
theorem settleFrame_ok (h : s.PayloadsOk) (o : LineOutcome) (i : Nat) (fits : Fits x.frame.payload) :
    (s.settleFrame side o i x).PayloadsOk := by
  refine grows_ok h (s.grows_settleFrame side o i x) fun at_side => ?_
  have old := queue_fits h at_side
  rcases settleFrame_frames s side o i x with e | ⟨n, e⟩ <;> rw [e, PerSide.get_modify_at] <;> split
  · exact sublist_fits old (List.eraseIdx_sublist _ i)
  · exact old
  · exact set_fits (x := { x with attempts := n, onLine := false }) old fits
  · exact old

theorem settleFate_keeps (side : Side) (o : LineOutcome) : Keeps (State.settleFate side o) := by
  intro s h
  rcases onLine_or_none (s.queues.frames.get side) with ⟨pre, x, post, found⟩ | waits
  · rw [settleFate_onLine found]
    exact settleFrame_ok h o _ (queue_fits h side x (List.mem_of_getElem? found.at_place))
  · rw [settleFate_none waits]
    exact h

/-- A side that falls silent loses its queue, and no test of a side state brings a payload (R88, R104 to R106). -/
theorem testSide_keeps (side : Side) : Keeps (State.testSide side) := by
  intro s h
  rcases testSide_cases s side with ⟨-, e⟩ | ⟨-, -, e⟩ | ⟨-, -, -, e⟩ | ⟨-, -, e⟩ | ⟨-, -, e⟩ <;> rw [e]
  · exact h
  · exact purge_keeps side _ _ h
  · exact h
  · exact h
  · exact h

theorem endAttempt_keeps (side : Side) (o : LineOutcome) : Keeps (State.endAttempt side o) := by
  intro s h
  unfold State.endAttempt
  split
  · exact testSide_keeps side _ (settleFate_keeps side o s h)
  · exact h

theorem select_keeps (side : Side) : Keeps (State.select side) := by
  intro s h
  have fits := queue_fits h side
  unfold State.select
  split
  · exact h
  · next first rest queue =>
    rw [queue] at fits
    split
    · exact onQueue_ok h (List.forall_mem_cons.2 ⟨fits first List.mem_cons_self, fun y hy =>
        fits y (List.mem_cons_of_mem first hy)⟩)
    · exact h

/-! ## Records -/

variable {v : Records} {r : Record} {p : Payload} {t : TagMemory} {now : CTime}

theorem accept_fits (hp : Fits p) : RecordFits (r.accept p now) := by
  constructor <;> simp [Record.accept, hp]

/-- What a change filter leaves of a record: its own values, or the payload it was shown (R41 to R45). -/
theorem filtered_fits (h : RecordFits r) (hp : Fits p) (f : Filter) (w : BitVec 16) :
    RecordFits (r.filtered f w p now).1 := by
  have settling : ∀ n, RecordFits (r.settling n p now).1 := by
    intro n
    unfold Record.settling
    repeat' split
    · exact accept_fits hp
    · exact accept_fits hp
    · exact h
    · exact ⟨h.1, by simpa using hp⟩
  cases f with
  | none => exact accept_fits hp
  | repeated =>
    unfold Record.filtered
    dsimp only
    split
    · exact h
    · exact accept_fits hp
  | settle2 => exact settling 2
  | settle3 => exact settling 3

/-- The tag memory step (R40, R46, R62). -/
theorem step_fits (h : RecordFits r) (hp : Fits p) (e : Entry) (settled : Bool) :
    RecordFits (r.step e settled p now).1 := by
  have filtered := filtered_fits (now := now) h hp e.filter e.window
  unfold Record.step Record.renewed
  dsimp only
  repeat' split
  · exact filtered
  · exact filtered
  · exact h
  · exact filtered

theorem records_set (h : RecordsFit v) (i : Fin 48) (hr : RecordFits r) : RecordsFit (v.set i (some r)) := by
  intro j x hx
  rw [getElem_set] at hx
  split at hx
  · cases hx; exact hr
  · exact h j x hx

/-- A record changed in other than its values. -/
theorem modify_fits (h : RecordsFit t.records) (i : Fin 48) {f : Record → Record}
    (same : ∀ r, RecordFits r → RecordFits (f r)) : RecordsFit (t.modify i f).records := by
  intro j x hx
  rw [TagMemory.modify_records] at hx
  split at hx
  · obtain ⟨y, hy, rfl⟩ := Option.map_eq_some_iff.1 hx
    exact same y (h j y hy)
  · exact h j x hx

theorem bind_fits (h : RecordsFit t.records) (i : Fin 48) (bound : Bool) : RecordsFit (t.bind i bound).records :=
  modify_fits h i fun _ hr => hr

theorem lookup_fits (h : RecordsFit t.records) (o : Side) (tag : Tag) (now : CTime) :
    RecordsFit (t.lookup o tag now).1.records := by
  unfold TagMemory.lookup
  split
  · exact modify_fits h _ fun _ hr => hr
  · exact h

/-- A record just allocated has no values (R36). -/
theorem allocate_fits (h : RecordsFit t.records) (o : Side) (tag : Tag) (now : CTime) :
    RecordsFit (t.allocate o tag now).1.records := by
  have fresh : RecordFits (Record.allocated o tag now) := ⟨nofun, nofun⟩
  rcases AllocationLaws.allocate_cases t o tag now with ⟨i, -, e⟩ | ⟨i, -, -, e⟩ | ⟨-, -, e⟩ <;> rw [e]
  · exact records_set h i fresh
  · exact records_set h i fresh
  · exact h

theorem recordFor_fits (h : RecordsFit t.records) (o : Side) (tag : Tag) (now : CTime) :
    RecordsFit (t.recordFor o tag now).1.records := by
  have looked := lookup_fits h o tag now
  unfold TagMemory.recordFor
  split
  · next e => rw [e] at looked; exact looked
  · next e => rw [e] at looked; exact allocate_fits looked o tag now

theorem expireRecord_fits (h : RecordsFit t.records) (i : Fin 48) (now : CTime) :
    RecordsFit (t.expire i now).records := by
  unfold TagMemory.expire
  split
  · next r hr =>
    split
    · exact records_set h i (h i r hr)
    · exact h
  · exact h

theorem flush_fits (h : RecordsFit t.records) : RecordsFit t.flush.records :=
  fun i r hr => h i r ((flush_records t i r).1 hr).1

/-- The tag memory replaced. -/
theorem withTags_ok (h : s.PayloadsOk) (fits : RecordsFit t.records) : ({ s with tags := t } : State).PayloadsOk :=
  ⟨h.1, fits, h.2.2⟩

/-- The tag memory step of a DATA frame whose payload fits (R22, R37, R40). -/
theorem tagStep_ok (h : s.PayloadsOk) (side : Side) (tag : Tag) (settled : Bool) (hp : Fits p) (e : Entry) :
    (s.tagStep side tag settled p e).1.PayloadsOk := by
  have found := recordFor_fits h.2.1 side tag s.now
  unfold State.tagStep
  split
  · next t i eq =>
    rw [eq] at found
    split
    · next r hr => exact withTags_ok h (records_set found i (step_fits (found i r hr) hp e settled))
    · exact withTags_ok h found
  · next t eq =>
    rw [eq] at found
    exact withTags_ok (s := s) h found

/-- A FRESH record answers with a value that fits (R55). -/
theorem freshValue_fits (h : RecordsFit t.records) {i : Fin 48} (e : t.freshValue i = some p) : Fits p := by
  unfold TagMemory.freshValue at e
  split at e
  · next r hr =>
    split at e
    · exact (h i r hr).1 p e
    · cases e
  · cases e

/-! ## Outstanding queries -/

theorem removeQuery_keeps (q : QueryEntry) : Keeps (State.removeQuery q) := fun s h =>
  withTags_ok (s := { s with proxy := _ }) h (bind_fits h.2.1 q.record false)

theorem settleReply_keeps (side : Side) (tag : Tag) : Keeps (State.settleReply side tag) := by
  intro s h
  unfold State.settleReply
  split
  · exact removeQuery_keeps _ s h
  · exact h

theorem withdrawQuery_keeps (side : Side) (tag : Tag) : Keeps (State.withdrawQuery side tag) := by
  intro s h
  unfold State.withdrawQuery
  split
  · exact removeQuery_keeps _ s h
  · exact h

theorem timeoutQuery_keeps (place : Nat) : Keeps (State.timeoutQuery place) := by
  intro s h
  unfold State.timeoutQuery
  repeat' split
  · exact removeQuery_keeps _ s h
  · exact h
  · exact h

theorem clearQueries_keeps : Keeps State.clearQueries := by
  intro s h
  rw [clearQueries_eq]
  have cleared : (s.proxy.list.foldl clearEntry s).PayloadsOk :=
    List.foldlRecOn _ _ h fun u hu q _ => withTags_ok (s := u) hu (bind_fits hu.2.1 q.record false)
  exact cleared

theorem trackQuery_keeps (side : Side) (tag : Tag) (cls : FClass) (i : Fin 48) :
    Keeps (State.trackQuery side tag cls i) := fun s h =>
  withTags_ok (s := { s with proxy := _ }) h (bind_fits h.2.1 i true)

/-- Rows 2 to 6 of Table 3-2. -/
theorem askAcross_ok (h : s.PayloadsOk) (side : Side) (tag : Tag) (hop : Hop) (cls : FClass)
    (found : Option (Fin 48)) : (s.askAcross side tag hop cls found).1.PayloadsOk := by
  have allocated := allocate_fits h.2.1 side.far tag s.now
  unfold State.askAcross
  split
  · exact h
  · split
    · exact h
    · split
      · exact h
      · split
        · exact trackQuery_keeps side tag cls _ s h
        · split
          · next e => rw [e] at allocated; exact trackQuery_keeps side tag cls _ _ (withTags_ok h allocated)
          · next e => rw [e] at allocated; exact withTags_ok (s := s) h allocated

/-- The proxy step: an answer carries a value that a record held (R54, R55). -/
theorem proxyStep_ok (h : s.PayloadsOk) (side : Side) (tag : Tag) (hop : Hop) (cls : FClass) :
    (s.proxyStep side tag hop cls).1.PayloadsOk := by
  have looked := lookup_fits h.2.1 side.far tag s.now
  unfold State.proxyStep
  dsimp only
  split
  · next value e =>
    obtain ⟨i, -, fresh⟩ := Option.bind_eq_some_iff.1 e
    have answer : Fits (answerFrame s.agent.params tag value cls).payload := freshValue_fits looked fresh
    exact admit_ok (withTags_ok h looked) side answer
  · exact askAcross_ok (withTags_ok h looked) side tag hop cls _

end Sys2Proof.Machine.PayloadLaws
end

section
/-! The classifier, the agent and its commands keep every payload within its bound: a frame is forwarded with the payload
it came with, and a command's reply, whatever it reads out, has at most 20 bytes (R146). -/

namespace Sys2Proof.Machine.PayloadLaws

variable {s t : State} {side : Side} {f : Frame} {m : Arrival} {p : Payload}

/-! ## The classifier and the trip unit -/

theorem forward_ok (h : s.PayloadsOk) (side : Side) (hf : Fits f.payload) : (s.forward side f).1.PayloadsOk := by
  unfold State.forward
  split
  · exact h
  · exact admit_ok (s := s.countClassifier side _) h side.far (f := { f with hop := f.hop - 1 }) hf

theorem defaultAction_keeps (side : Side) (hf : Fits f.payload) : Keeps (State.defaultAction side f) := by
  intro s h
  unfold State.defaultAction
  dsimp only
  split
  · exact forward_ok (s := s.countClassifier side _) h side hf
  · exact h

theorem offerTrip_ok (h : s.PayloadsOk) (k : Fin 4) (side : Side) (tag : Tag) (p : Payload) :
    (s.offerTrip k side tag p).1.PayloadsOk := by
  have tripped : Keeps (State.enterTripped k side tag) := fun u hu =>
    clearQueries_keeps _ (tripPurge_keeps .b _ (tripPurge_keeps .a (State.setFlag .tripped _) hu))
  have collected : ∀ u : State, u.PayloadsOk → (u.collect k side tag).1.PayloadsOk := by
    intro u hu
    dsimp only [State.collect]
    split
    · exact tripped u hu
    · exact hu
  dsimp only [State.offerTrip, State.assertSource]
  repeat' split
  · exact h
  · exact collected (s.countTrip _).beginCollection h
  · exact h
  · exact collected (s.countTrip _) h
  all_goals exact h

theorem dataOnward_keeps (side : Side) (tag : Tag) (settled : Bool) (hf : Fits f.payload) (e : Entry) :
    Keeps (State.dataOnward side tag settled f e) := by
  intro s h
  have stepped := tagStep_ok h side tag settled hf e
  unfold State.dataOnward
  split
  · split
    · next eq => rw [eq] at stepped; exact forward_ok stepped side hf
    · next eq => rw [eq] at stepped; exact stepped
    · next eq => rw [eq] at stepped; exact stepped
  · exact forward_ok h side hf

theorem dataUnder_keeps (side : Side) (tag : Tag) (settled : Bool) (hf : Fits f.payload) (e : Entry) :
    Keeps (State.dataUnder side tag settled f e) := by
  intro s h
  have offered : (s.tripStep side tag f e).1.PayloadsOk := by
    unfold State.tripStep
    split
    · exact offerTrip_ok h _ side tag f.payload
    · exact h
  unfold State.dataUnder
  split
  · next eq => rw [eq] at offered; exact offered
  · next eq =>
    rw [eq] at offered
    split
    · exact offered
    · exact dataOnward_keeps side tag settled hf e _ offered

/-- A DATA frame: its payload goes into a record and on to the far side at most (R15 to R26). -/
theorem classifyData_keeps (side : Side) (reply : Bool) (tag : Tag) (hf : Fits f.payload) :
    Keeps (State.classifyData side reply tag f) := by
  intro s h
  have matched : ∀ settled, Keeps (State.matchData side tag settled f) := by
    intro settled u hu
    unfold State.matchData
    split
    · exact dataUnder_keeps side tag settled hf _ (u.hit _) hu
    · exact defaultAction_keeps side hf u hu
  unfold State.classifyData
  dsimp only
  repeat' split
  · exact h
  · exact matched _ _ (settleReply_keeps side tag (s.countClassifier side _) h)
  · exact matched _ (s.countClassifier side _) h

theorem forwardTracked_keeps (side : Side) (tag : Tag) (hf : Fits f.payload) :
    Keeps (State.forwardTracked side tag f) := by
  intro s h
  have sent := forward_ok h side hf
  unfold State.forwardTracked
  split
  · next eq => rw [eq] at sent; exact withdrawQuery_keeps side tag _ sent
  · next eq => rw [eq] at sent; exact sent

theorem queryUnder_keeps (side : Side) (tag : Tag) (hf : Fits f.payload) (e : Entry) :
    Keeps (State.queryUnder side tag f e) := by
  intro s h
  have asked := proxyStep_ok h side tag f.hop (e.classOf f.cls)
  unfold State.queryUnder
  split
  · exact h
  · exact forward_ok h side hf
  · exact forward_ok h side hf
  · split
    · next eq => rw [eq] at asked; exact asked
    · next eq => rw [eq] at asked; exact asked
    · next eq => rw [eq] at asked; exact forwardTracked_keeps (f := e.applyTo tag f) side tag hf _ asked
    · next eq => rw [eq] at asked; exact forward_ok (f := e.applyTo tag f) asked side hf

theorem classifyQuery_keeps (side : Side) (reply : Bool) (tag : Tag) (hf : Fits f.payload) :
    Keeps (State.classifyQuery side reply tag f) := by
  intro s h
  unfold State.classifyQuery State.matchQuery
  dsimp only
  repeat' split
  · exact h
  · exact h
  · exact queryUnder_keeps side tag hf _ (State.hit _ (s.countClassifier side _)) h
  · exact defaultAction_keeps side hf (s.countClassifier side _) h

/-- A MGMT frame, for an agent that keeps the payloads (R27 to R30). -/
theorem classifyMgmt_keeps {agent : State → State} (ha : Keeps agent) (side : Side) (hf : Fits f.payload)
    (dst src : Station) : Keeps (State.classifyMgmt side f dst src agent) := by
  intro s h
  have onward : Keeps (State.forwardMgmt side f) := by
    intro u hu
    unfold State.forwardMgmt
    split
    · exact hu
    · exact forward_ok hu side hf
  have taken : (s.countClassifier side fun c => { c with mgmtTaken := bump c.mgmtTaken }).PayloadsOk := h
  unfold State.classifyMgmt
  dsimp only
  repeat' split
  · exact h
  · exact ha _ taken
  · exact onward _ (ha _ taken)
  · exact onward _ taken

/-! ## The port -/

theorem endOfFrame_keeps {take : State → State} (ht : Keeps take) (side : Side) :
    Keeps (State.endOfFrame side take) := by
  intro s h
  rcases s.endOfFrame_cases side take with ⟨-, e⟩ | ⟨-, -, e⟩ | ⟨-, -, e⟩ <;> rw [e]
  · exact h
  · exact h
  · exact ht s h

/-- A message that fits a frame arrives. -/
theorem arrive_keeps {agent : State → State} (ha : Keeps agent) (m : Arrival) (toAll : Bool) (hp : Fits p) :
    Keeps (State.arrive m toAll p agent) := fun s h =>
  endOfFrame_keeps (fun u hu => classifyMgmt_keeps ha m.side (f := arrivalFrame m _ p) hp _ m.source
    ((u.acknowledge m.side true).countPort m.side _) hu) m.side s h

theorem arrival_ok {agent : State → State} {fits toAll : Bool} (h : s.PayloadsOk) (ha : Keeps agent) (hp : Fits p)
    (e : arrival fits m toAll p agent s = .next t) : t.PayloadsOk := by
  unfold arrival at e
  split at e <;> cases e
  exact event_keeps (arrive_keeps ha m toAll hp) s h

/-- A received frame that is good has a payload that fits (R96). -/
theorem readFrame_fits {bytes : List Byte} (e : readFrame bytes = some f) : Fits f.payload := by
  unfold readFrame at e
  split at e
  · split at e
    · next ok => cases e; exact (List.length_take_le _ _).trans ok.1
    · cases e
  · cases e

/-! ## The agent -/

theorem respond_keeps (m : Arrival) {r : Response} (hr : ArgsFit r.args) : Keeps (State.respond m r) := by
  intro s h
  have fits : Fits (responseFrame s.agent.params m.source r).payload := Nat.add_le_add_right hr 4
  have admitted := admit_ok h m.side fits
  unfold State.respond
  split
  · next eq => rw [eq] at admitted; exact admitted
  · next eq => rw [eq] at admitted; exact admitted

theorem withSession_ok (h : s.PayloadsOk) {x : Option Session} (hx : ∀ y ∈ x, ArgsFit y.cached.args) :
    (s.withSession x).PayloadsOk := ⟨h.1, h.2.1, hx⟩

theorem keepResponse_keeps (m : Arrival) {r : Response} (hr : ArgsFit r.args) : Keeps (State.keepResponse m r) := by
  intro s h
  unfold State.keepResponse
  repeat' split
  · refine withSession_ok h fun y hy => ?_
    cases hy
    exact hr
  · exact h
  · exact h

theorem finish_keeps (first : Bool) (m : Arrival) {r : Response} (hr : ArgsFit r.args) :
    Keeps (State.finish first m r) := by
  intro s h
  have kept := keepResponse_keeps m hr s h
  unfold State.finish
  dsimp only
  split
  · exact respond_keeps m hr _ (settle_keeps _ kept)
  · exact respond_keeps m hr _ kept

/-- A rule that keeps the payloads and answers within a message. -/
def Replies (run : State → State × Reply) : Prop :=
  ∀ s : State, s.PayloadsOk → (run s).1.PayloadsOk ∧ ArgsFit (run s).2.args

/-- A command whose rule and whose refusal do. -/
structure Fitting (c : Command) : Prop where
  run    : Replies c.run
  refuse : Replies c.refuse

/-- A COMMAND taken by the agent (R144): a duplicate is answered with a response that was within a message. -/
theorem take_keeps {c : Command} (hc : Fitting c) (m : Arrival) (seq : Byte) : Keeps (State.take m seq c) := by
  intro s h
  have decided : (s.countCommand.decideCommand m c).1.PayloadsOk ∧
      ArgsFit (s.countCommand.decideCommand m c).2.args := by
    unfold State.decideCommand
    split
    · exact hc.refuse (s.countCommand.countAgent _) h
    · exact hc.run s.countCommand h
  have cached := h.2.2
  unfold State.take
  split
  · next r dup =>
    unfold State.duplicateOf at dup
    split at dup
    · next x session =>
      split at dup <;> cases dup
      have renewed : (s.countCommand.withSession (s.agent.session.map (Session.renew s.now m.side))).PayloadsOk := by
        refine withSession_ok (s := s.countCommand) h fun y hy => ?_
        rw [session] at hy
        cases hy
        exact cached x session
      exact respond_keeps m (cached x session) (State.countAgent _ _) renewed
    · cases dup
  · split
    next eq => rw [eq] at decided; exact finish_keeps _ m decided.2 _ decided.1

theorem takeBroadcast_keeps {c : Command} (hc : Fitting c) (m : Arrival) (seq : Byte) :
    Keeps (State.takeBroadcast m seq c) := by
  intro s h
  have run := hc.run s.countCommand h
  unfold State.takeBroadcast
  split
  next eq => rw [eq] at run; exact respond_keeps m run.2 _ (settle_keeps _ run.1)

theorem takeAck_keeps (src : Station) (seq : Byte) : Keeps (State.takeAck src seq) := by
  intro s h
  unfold State.takeAck
  split <;> exact h

end Sys2Proof.Machine.PayloadLaws
end

section
/-! No reply to a command is longer than 20 bytes (R146), and every row keeps every payload within its bound. -/

namespace Sys2Proof.Machine.PayloadLaws

variable {s t : State} {run : State → State × Reply} {code : Byte}

/-! ## The lengths of what is read out (spec/12, 12.5) -/

@[simp] theorem be16_length (w : BitVec 16) : (be16 w).length = 2 := rfl
@[simp] theorem be32_length (w : BitVec 32) : (be32 w).length = 4 := rfl
@[simp] theorem tagBytes_length (tag : Tag) : (tagBytes tag).length = 3 := rfl
@[simp] theorem stationBytes_length (n : Station) : (stationBytes n).length = 2 := rfl
@[simp] theorem deadlineBytes_length (d : Option CTime) : (deadlineBytes d).length = 4 := rfl
@[simp] theorem entryBytes_length (e : Entry) : e.bytes.length = 12 := rfl
@[simp] theorem headerBytes_length (h : BankHeader) : h.bytes.length = 15 := rfl
@[simp] theorem takeFree_length (n : Nat) (s : State) : (s.takeFree n).2.length = n := by simp [State.takeFree]

theorem hitBytes_length (code : Byte) (i : Fin 64) (s : State) : (s.hitBytes code i).length ≤ 4 := by
  unfold State.hitBytes
  split
  · exact Nat.le_refl 4
  · exact Nat.zero_le 4

/-- Up to four counters take 16 bytes (Table 12-11). -/
theorem counters_length (cs : List Counter) : ((cs.take 4).flatMap be32).length ≤ 16 := by
  have four : (cs.take 4).length ≤ 4 := List.length_take_le 4 cs
  simp only [List.length_flatMap, be32_length, List.map_const', List.sum_replicate, smul_eq_mul]
  omega

/-- A source takes 3 bytes, of which those of an undefined one are free (Table 12-3). -/
theorem tripSourceBytes_length (x : Option TripSource) (free : Payload) :
    (tripSourceBytes x free).length ≤ 3 + (free.length - 2) := by
  cases x
  · simp only [tripSourceBytes, List.length_cons]; omega
  · simp only [tripSourceBytes, List.length_cons, List.length_nil]; omega

theorem tripConfigBytes_length (c : TripConfig) (free : Payload) : (c.bytes free).length ≤ 15 := by
  have source : ∀ (x : Option TripSource) (rest : Payload), (tripSourceBytes x (rest.take 2)).length ≤ 3 := by
    intro x rest
    have two : (rest.take 2).length ≤ 2 := List.length_take_le 2 rest
    have := tripSourceBytes_length x (rest.take 2)
    omega
  have s0 := source c.sources[0] free
  have s1 := source c.sources[1] (free.drop 2)
  have s2 := source c.sources[2] (free.drop 4)
  have s3 := source c.sources[3] (free.drop 6)
  simp only [TripConfig.bytes, List.length_append, List.length_cons, List.length_nil, be16_length]
  omega

/-- A page of a value carries 16 bytes of it, or what 24 bytes leave after 16 (Table 12-10). -/
theorem valuePage_length {x : Option Payload} (h : ∀ v ∈ x, Fits v) (second : Bool) {free : Payload}
    (hf : free.length ≤ 1) : (valuePage x second free).length ≤ 17 := by
  cases x with
  | none => exact hf.trans (by decide)
  | some v =>
    have fits : v.length ≤ 24 := h v rfl
    cases second
    · simp [valuePage]
    · simp [valuePage]; omega

theorem page_length {r : Record} (h : RecordFits r) (page : Nat) {free : Payload} (hf : free.length ≤ 1) :
    (r.page page free).length ≤ 18 := by
  obtain ⟨held, candidate⟩ := h
  unfold Record.page
  rw [List.length_cons]
  refine Nat.succ_le_succ ?_
  split
  · simp
  · exact valuePage_length held false hf
  · exact valuePage_length held true hf
  · exact valuePage_length candidate false hf
  · exact valuePage_length candidate true hf

/-! ## Rules -/

/-- A rule that refuses or answers without arguments, the state as it was. -/
theorem bare_replies (h : s.PayloadsOk) (status : Status) :
    (s, bareReply status).1.PayloadsOk ∧ ArgsFit (s, bareReply status).2.args := ⟨h, Nat.zero_le _⟩

theorem openCommand_fitting (h : Replies run) : Fitting (openCommand code run) := ⟨h, fun _ k => bare_replies k _⟩
theorem ownerCommand_fitting (h : Replies run) : Fitting (ownerCommand code run) := ⟨h, fun _ k => bare_replies k _⟩

theorem noArguments_replies (h : Replies run) (args : Payload) : Replies (noArguments args run) := by
  intro s k
  unfold noArguments
  split
  · exact h s k
  · exact bare_replies k _

theorem inClean_replies (h : Replies run) : Replies (inClean run) := by
  intro s k
  unfold inClean
  split
  · exact bare_replies k _
  · exact h s k

theorem abortTransfer_keeps : Keeps State.abortTransfer := by
  intro s h
  unfold State.abortTransfer
  split <;> exact h

theorem endSession_keeps : Keeps State.endSession := fun s h =>
  withSession_ok (abortTransfer_keeps s h) nofun

/-! ## The agent's own commands -/

theorem identify_fitting (args : Payload) : Fitting (identifyCommand args) :=
  openCommand_fitting (noArguments_replies (fun s h => ⟨h, by
    simp [okReply, State.identity, Config.arguments]⟩) args)

theorem openSession_fitting (m : Arrival) (seq : Byte) (args : Payload) : Fitting (openSessionCommand m seq args) := by
  refine openCommand_fitting fun s h => ?_
  have session := h.2.2
  have three : ∀ (n : Station) (b : Byte), ArgsFit (stationBytes n ++ [b]) := fun _ _ => by
    simp [ArgsFit, Config.arguments]
  unfold runOpen
  repeat' split
  · exact bare_replies h _
  · refine ⟨withSession_ok h fun y hy => ?_, three _ _⟩
    cases hy
    exact three _ _
  · next x owner own =>
    refine ⟨withSession_ok h fun y hy => ?_, three _ _⟩
    cases hy
    exact session x owner
  · exact ⟨h, three _ _⟩
  · exact bare_replies h _

theorem close_fitting (args : Payload) : Fitting (closeCommand args) :=
  ownerCommand_fitting (noArguments_replies (fun s h => ⟨endSession_keeps s h, Nat.zero_le _⟩) args)

theorem status_fitting (m : Arrival) (args : Payload) : Fitting (statusCommand m args) := by
  refine openCommand_fitting fun s h => ?_
  have side : ∀ side, ArgsFit (s.statusSide side) := by
    intro side
    unfold State.statusSide
    dsimp only
    split <;> simp [ArgsFit, Config.arguments]
  have trip : ArgsFit s.statusTrip := by
    unfold State.statusTrip
    split <;> simp [ArgsFit, Config.arguments]
  repeat' split
  · exact ⟨h, by simp [okReply, State.statusGeneral, Config.arguments]⟩
  · exact ⟨h, side .a⟩
  · exact ⟨h, side .b⟩
  · exact ⟨h, trip⟩
  all_goals exact bare_replies h _

theorem readCounters_fitting (args : Payload) : Fitting (readCountersCommand args) := by
  refine openCommand_fitting fun s h => ?_
  repeat' split
  · refine ⟨h, ?_⟩
    simp only [okReply, ArgsFit, Config.arguments, List.length_append, List.length_cons, List.length_nil]
    exact (Nat.add_le_add_left (counters_length _) 2).trans (by decide)
  all_goals exact bare_replies h _

theorem clearSet_keeps (n : Nat) : Keeps (State.clearSet n) := by
  intro s h
  unfold State.clearSet
  split
  all_goals exact h

theorem clearCounters_fitting (args : Payload) : Fitting (clearCountersCommand args) := by
  refine ownerCommand_fitting fun s h => ?_
  have all : s.clearAllSets.PayloadsOk := by
    unfold State.clearAllSets
    exact List.foldlRecOn _ _ h fun u hu n _ => clearSet_keeps n u hu
  repeat' split
  · exact ⟨all, Nat.zero_le _⟩
  · exact ⟨clearSet_keeps _ s h, Nat.zero_le _⟩
  all_goals exact bare_replies h _

theorem configure_keeps (i : ParamId) (v : BitVec 16) : Keeps (State.configure i v) := by
  intro s h
  unfold State.configure
  dsimp only
  split
  · exact rereadAge_keeps .b _ _ (rereadAge_keeps .a _ (s.withParams _) h)
  · exact h

theorem setConfig_fitting (args : Payload) : Fitting (setConfigCommand args) := by
  refine ownerCommand_fitting fun s h => ?_
  repeat' split
  · exact bare_replies h _
  · exact bare_replies h _
  · exact bare_replies h _
  · exact ⟨configure_keeps _ _ s h, by simp [okReply, Config.arguments]⟩
  · exact bare_replies h _

theorem readConfig_fitting (args : Payload) : Fitting (readConfigCommand args) := by
  refine openCommand_fitting fun s h => ?_
  repeat' split
  · next free =>
    cases free
    exact ⟨h, (Nat.succ_le_succ (tripConfigBytes_length _ _)).trans (by decide)⟩
  · exact ⟨h, by simp [okReply, Config.arguments]⟩
  all_goals exact bare_replies h _

theorem restartSide_keeps (side : Side) : Keeps (State.restartSide side) := by
  intro s h
  have aborted : (s.abortAttempt side).PayloadsOk := by
    rw [EgressLaws.abortAttempt_eq]
    exact h
  exact purge_keeps side (fun n c => { c with purgedRestart := satAdd c.purgedRestart n }) _ aborted

/-- RESTART empties the queues and the records (R34, R92, R161). -/
theorem restart_fitting (args : Payload) : Fitting (restartCommand args) := by
  refine ⟨noArguments_replies (fun s h => ?_) args, fun _ h => bare_replies h _⟩
  have sides := restartSide_keeps .b _ (restartSide_keeps .a s h)
  have none_left : RecordsFit (Vector.replicate 48 none) := by simp [RecordsFit]
  unfold runRestart
  split
  · exact bare_replies h _
  · refine ⟨abortTransfer_keeps _ ?_, Nat.zero_le _⟩
    exact withTags_ok (s := (s.restartSide .a).restartSide .b) (t := ⟨_, _⟩) sides none_left

/-! ## The banks and the transfer -/

theorem readEntry_fitting (args : Payload) : Fitting (readEntryCommand args) := by
  refine openCommand_fitting fun s h => ?_
  repeat' split
  · exact bare_replies h _
  · exact ⟨h, by simp [okReply, Config.arguments]⟩
  · refine ⟨h, ?_⟩
    simp only [okReply, ArgsFit, Config.arguments, List.length_append, List.length_cons, List.length_nil,
      entryBytes_length]
    exact (Nat.add_le_add_left (hitBytes_length _ _ _) 15).trans (by decide)
  all_goals exact bare_replies h _

theorem writeEntry_fitting (args : Payload) : Fitting (writeEntryCommand args) := by
  refine ownerCommand_fitting fun s h => ?_
  split
  · split
    · exact bare_replies h _
    · refine inClean_replies (fun u hu => ?_) s h
      split
      · exact ⟨hu, by simp [okReply, Config.arguments]⟩
      · exact bare_replies hu _
  · exact bare_replies h _

theorem writeMasksDefaults_fitting (args : Payload) : Fitting (writeMasksDefaultsCommand args) := by
  refine ownerCommand_fitting fun s h => ?_
  split
  · exact bare_replies h _
  · refine inClean_replies (fun u hu => ?_) s h
    split <;> exact ⟨hu, Nat.zero_le _⟩

theorem copyActive_fitting (args : Payload) : Fitting (copyActiveCommand args) := by
  refine ownerCommand_fitting (noArguments_replies (fun s h => ?_) args)
  unfold runCopyActive
  split <;> exact ⟨h, Nat.zero_le _⟩

theorem commit_fitting (args : Payload) : Fitting (commitCommand args) := by
  refine ownerCommand_fitting (noArguments_replies (inClean_replies fun s h => ?_) args)
  unfold runCommit
  split
  · exact ⟨h, by simp [Config.arguments]⟩
  · exact ⟨h, by simp [okReply, Config.arguments]⟩

theorem loadBegin_fitting (args : Payload) : Fitting (loadBeginCommand args) := by
  refine ownerCommand_fitting fun s h => ?_
  unfold runLoadBegin
  repeat' split
  all_goals exact ⟨h, by simp [okReply, bareReply, Config.arguments]⟩

theorem refuseLoadPart_replies (status : Status) (args : Payload) : Replies (refuseLoadPart status args) := by
  intro s h
  cases args <;> exact ⟨h, by simp [refuseLoadPart, State.partNumber, Config.arguments]⟩

theorem runLoadPart_replies (part : Byte) (item : Payload) : Replies (runLoadPart part item) := by
  intro s h
  have two : ∀ a b : Byte, ArgsFit [a, b] := fun _ _ => by simp [Config.arguments]
  unfold runLoadPart
  repeat' split
  · exact ⟨h, by simp [Config.arguments]⟩
  · exact ⟨h, by simp [Config.arguments]⟩
  · exact ⟨h, two _ _⟩
  · exact ⟨h, two _ _⟩
  · exact ⟨abortTransfer_keeps s h, two _ _⟩
  · exact ⟨h, two _ _⟩
  · exact ⟨h, two _ _⟩

theorem loadPart_fitting (args : Payload) : Fitting (loadPartCommand args) where
  refuse := refuseLoadPart_replies _ args
  run := by
    intro s h
    unfold loadPartCommand
    dsimp only
    split
    · exact runLoadPart_replies _ _ s h
    · exact refuseLoadPart_replies _ args s h

theorem loadEnd_fitting (args : Payload) : Fitting (loadEndCommand args) := by
  refine ownerCommand_fitting fun s h => ?_
  have aborted := abortTransfer_keeps s h
  unfold runLoadEnd
  repeat' split
  · exact bare_replies h _
  · exact bare_replies h _
  · exact ⟨aborted, by simp [Config.arguments]⟩
  · exact ⟨aborted, by simp [Config.arguments]⟩
  · exact ⟨h, by simp [okReply, Config.arguments]⟩
  · exact bare_replies h _

/-! ## Records, queries and queued frames -/

theorem readout_replies (i : Fin 48) (page : Nat) : Replies (State.readout i page) := by
  intro s h
  unfold State.readout
  split
  · next r hr =>
    have free : (s.takeFree (if r.pageAbsent page then 1 else 0)).2.length ≤ 1 := by
      rw [takeFree_length]
      split <;> decide
    have read := page_length (h.2.1 i r hr) page free
    exact ⟨h, (Nat.succ_le_succ read).trans (by decide)⟩
  · exact ⟨h, by simp [okReply, Config.arguments]⟩

theorem readRecord_fitting (args : Payload) : Fitting (readRecordCommand args) := by
  refine openCommand_fitting fun s h => ?_
  repeat' split
  · exact readout_replies _ _ s h
  · exact bare_replies h _
  · exact bare_replies h _
  · exact readout_replies _ _ s h
  · exact ⟨h, by simp [okReply, Config.arguments]⟩
  all_goals exact bare_replies h _

theorem flush_fitting (args : Payload) : Fitting (flushCommand args) :=
  ownerCommand_fitting (noArguments_replies
    (fun s h => ⟨withTags_ok (s := s) h (flush_fits h.2.1), by simp [okReply, runFlush, Config.arguments]⟩) args)

theorem readQueries_fitting (args : Payload) : Fitting (readQueriesCommand args) := by
  refine openCommand_fitting fun s h => ?_
  repeat' split
  · exact bare_replies h _
  · exact ⟨h, by simp [okReply, QueryEntry.bytes, Config.arguments]⟩
  · exact ⟨h, by simp [okReply, Config.arguments]⟩
  · exact bare_replies h _

theorem cancelTag_replies (sides : Byte) (tag : Tag) : Replies (State.cancelTag sides tag) := by
  intro s h
  have two : ∀ a b : Byte, ArgsFit [a, b] := fun _ _ => by simp [Config.arguments]
  have onA := cancelIn_ok h .a tag
  have onB := cancelIn_ok h .b tag
  unfold State.cancelTag
  repeat' split
  · next e => rw [e] at onA; exact ⟨onA, two _ _⟩
  · next e => rw [e] at onB; exact ⟨onB, two _ _⟩
  · next eA _ _ _ _ eB =>
    rw [eA] at onA
    have both := cancelIn_ok onA .b tag
    rw [eB] at both
    exact ⟨both, two _ _⟩
  · exact bare_replies h _

theorem cancelTag_fitting (args : Payload) : Fitting (cancelTagCommand args) := by
  refine ownerCommand_fitting fun s h => ?_
  repeat' split
  · exact cancelTag_replies _ _ s h
  all_goals exact bare_replies h _

/-! ## Sides, the trip unit, events and images -/

/-- An action on a side empties its queue at most (R89, R108 to R110). -/
theorem sideAction_ok (h : s.PayloadsOk) {side : Side} {action : SideAction}
    (e : s.sideAction side action = some t) : t.PayloadsOk := by
  have off : (s.sideOff side).PayloadsOk := by
    rw [SideLaws.sideOff_eq]
    exact onQueue_ok (f := fun _ => []) h (List.forall_mem_nil _)
  unfold State.sideAction at e
  split at e <;> cases e
  · exact h
  · exact off
  · exact h
  · exact h

theorem sideControl_fitting (args : Payload) : Fitting (sideControlCommand args) := by
  refine ownerCommand_fitting fun s h => ?_
  unfold runSideControl
  repeat' split
  · next e => exact ⟨sideAction_ok h e, by simp [State.sideReply, Config.arguments]⟩
  · exact ⟨h, by simp [State.sideReply, Config.arguments]⟩
  all_goals exact bare_replies h _

theorem setTrip_fitting (args : Payload) : Fitting (setTripCommand args) := by
  refine ownerCommand_fitting fun s h => ?_
  unfold runSetTrip
  repeat' split
  all_goals exact ⟨h, by simp [okReply, bareReply, Config.arguments]⟩

theorem releaseTrip_fitting (args : Payload) : Fitting (releaseTripCommand args) := by
  refine ownerCommand_fitting (noArguments_replies (fun s h => ?_) args)
  unfold runReleaseTrip
  split
  · exact ⟨h, by simp [okReply, Config.arguments]⟩
  · exact ⟨h, by simp [Config.arguments]⟩

/-- A group takes 7 bytes (Table 12-11). -/
theorem groupReadout_fits (g : Group) (s : State) : ArgsFit (s.groupReadout g) := by
  simp [State.groupReadout, ArgsFit, Config.arguments]

theorem readEvents_fitting (args : Payload) : Fitting (readEventsCommand args) := by
  refine openCommand_fitting fun s h => ?_
  have list : ∀ first, ArgsFit (s.listReadout first) := by
    intro first
    unfold State.listReadout
    split <;> simp [Report.bytes, ArgsFit, Config.arguments]
  repeat' split
  · exact ⟨h, groupReadout_fits _ s⟩
  · exact ⟨h, list _⟩
  all_goals exact bare_replies h _

theorem clearEvents_fitting (args : Payload) : Fitting (clearEventsCommand args) := by
  refine ownerCommand_fitting fun s h => ?_
  split
  · exact ⟨h, groupReadout_fits _ _⟩
  · exact bare_replies h _

theorem enableEvents_fitting (args : Payload) : Fitting (enableEventsCommand args) := by
  refine ownerCommand_fitting fun s h => ?_
  split
  · exact ⟨settle_keeps { s with events := _ } h, groupReadout_fits _ _⟩
  · exact bare_replies h _

theorem slotReadout_fits (i : SlotId) (h : s.PayloadsOk) :
    (s.slotReadout i).1.PayloadsOk ∧ (s.slotReadout i).2.length = 5 := by
  unfold State.slotReadout
  split
  · exact ⟨h, rfl⟩
  · exact ⟨h, by simp⟩

/-- Target, sequence and both slots take 15 bytes (Table 12-12). -/
theorem store_fitting (args : Payload) : Fitting (storeCommand args) := by
  refine ownerCommand_fitting (noArguments_replies (fun s h => ?_) args)
  unfold runStore
  split
  · exact ⟨h, by simp [Config.arguments]⟩
  · obtain ⟨first, five⟩ := slotReadout_fits (s := s.beginStore) .zero h
    obtain ⟨second, five'⟩ := slotReadout_fits .one first
    exact ⟨second, by simp [State.storeReply, okReply, five, five', Config.arguments]⟩

theorem unknown_fitting (code : Byte) : Fitting (unknownCode code) :=
  openCommand_fitting fun _ h => ⟨h, Nat.zero_le _⟩

/-- Every command replies within a message. -/
theorem commandFor_fitting (m : Arrival) (seq code : Byte) (args : Payload) :
    Fitting (commandFor m seq code args) := by
  unfold commandFor
  split
  · exact identify_fitting args
  · exact openSession_fitting m seq args
  · exact close_fitting args
  · exact status_fitting m args
  · exact readCounters_fitting args
  · exact clearCounters_fitting args
  · exact readEntry_fitting args
  · exact writeEntry_fitting args
  · exact writeMasksDefaults_fitting args
  · exact copyActive_fitting args
  · exact commit_fitting args
  · exact loadBegin_fitting args
  · exact loadPart_fitting args
  · exact loadEnd_fitting args
  · exact readRecord_fitting args
  · exact flush_fitting args
  · exact readQueries_fitting args
  · exact cancelTag_fitting args
  · exact sideControl_fitting args
  · exact setConfig_fitting args
  · exact readConfig_fitting args
  · exact setTrip_fitting args
  · exact releaseTrip_fitting args
  · exact readEvents_fitting args
  · exact clearEvents_fitting args
  · exact enableEvents_fitting args
  · exact store_fitting args
  · exact restart_fitting args
  · exact unknown_fitting code

/-! ## Receptions, deadlines and power -/

/-- What the agent does with a message, whatever it is (R143). -/
theorem agentTakes_keeps (m : Arrival) (toAll : Bool) (payload : Payload) :
    Keeps (State.agentTakes m toAll payload) := by
  intro s h
  unfold State.agentTakes State.takeAnnouncement State.takeMessage
  split
  · repeat' split
    · exact h
    · exact takeBroadcast_keeps (identify_fitting _) m _ s h
    · exact h
    · exact take_keeps (commandFor_fitting m _ _ _) m _ s h
    · exact takeAck_keeps _ _ s h
    · exact h
    · exact h
  · exact h

/-- A good frame has a payload that fits; a bad one brings none (R96, R97). -/
theorem receive_keeps (side : Side) (bytes : List Byte) : Keeps (State.receive side bytes) := by
  have classify : ∀ f : Frame, Fits f.payload → Keeps (State.classify side f) := by
    intro f hf s h
    unfold State.classify
    split
    · exact classifyData_keeps side _ _ hf s h
    · exact classifyQuery_keeps side _ _ hf s h
    · exact classifyMgmt_keeps (agentTakes_keeps _ _ _) side hf _ _ s h
    · exact h
  refine endOfFrame_keeps (fun s h => ?_) side
  split
  · next f read => exact classify f (readFrame_fits read) ((s.acknowledge side true).countPort side _) h
  · exact h

theorem ageOut_keeps (side : Side) (place : Nat) : Keeps (State.ageOut side place) := by
  intro s h
  unfold State.ageOut
  repeat' split
  · exact expire_keeps side place s h
  · exact h
  · exact h

theorem autoRecover_keeps (side : Side) : Keeps (State.autoRecover side) := by
  intro s h
  unfold State.autoRecover
  dsimp only
  split <;> exact h

theorem lapseWindow_keeps : Keeps State.lapseWindow := by
  intro s h
  unfold State.lapseWindow
  split <;> exact h

theorem expireLease_keeps : Keeps State.expireLease := by
  intro s h
  unfold State.expireLease
  repeat' split
  · exact endSession_keeps s h
  · exact h
  · exact h

theorem expireTransfer_keeps : Keeps State.expireTransfer := by
  intro s h
  unfold State.expireTransfer
  repeat' split
  · exact abortTransfer_keeps s h
  all_goals exact h

theorem retryReport_keeps : Keeps State.retryReport := by
  intro s h
  unfold State.retryReport
  repeat' split
  all_goals exact h

theorem completeStore_keeps (verified : Bool) : Keeps (State.completeStore verified) := by
  intro s h
  unfold State.completeStore State.endStore
  repeat' split
  all_goals exact h

/-- A part that starts or stops holds no frame, no value and no session (R190). -/
theorem started_ok (img : Image) (x : ImageStore) (free : Nat) (pending : List Instr) (phase : Phase) :
    ({ State.started img x free pending with phase := phase } : State).PayloadsOk :=
  ⟨⟨List.forall_mem_nil _, List.forall_mem_nil _⟩, by simp [State.started], nofun⟩

theorem endStarting_keeps (busyA busyB : Bool) : Keeps (State.endStarting busyA busyB) := by
  intro s h
  unfold State.endStarting
  split
  · refine settle_keeps _ ?_
    unfold State.setDue
    split <;> exact h
  all_goals exact h

/-! ## Every row -/

theorem exec_ok (h : s.PayloadsOk) {i : Instr} (e : exec i s = .next t) : t.PayloadsOk := by
  cases c : i.command with
  | some x =>
    obtain ⟨m, seq, code⟩ := x
    obtain ⟨fit, row⟩ := CommandRows.command_row (CommandRows.wellFormed_of_next e) c
    rw [row] at e
    exact arrival_ok h (take_keeps (commandFor_fitting m seq code i.args) m seq) (Laws.MessageFits.fits fit) e
  | none =>
    cases i with
    | rstNLow => cases e; exact started_ok _ _ _ _ .held
    | powerLoss => cases e; exact started_ok _ _ _ _ .unpowered
    | startUp strap failmodeHigh checks0 checks1 => cases e; exact started_ok _ _ _ _ .starting
    | startingEnd busyA busyB => cases e; exact endStarting_keeps busyA busyB s h
    | reception side bytes => cases e; exact event_keeps (receive_keeps side bytes) s h
    | transmitterSelection side => cases e; exact event_keeps (select_keeps side) s h
    | lineWaitExpiry side =>
      cases e
      refine event_keeps (fun u hu => ?_) s h
      split
      · exact endAttempt_keeps side .lineError u hu
      · exact hu
    | attemptCompletion side outcome => cases e; exact event_keeps (endAttempt_keeps side outcome) s h
    | recoveryDeadline side => cases e; exact event_keeps (autoRecover_keeps side) s h
    | ageDeadline side place => cases e; exact event_keeps (ageOut_keeps side place) s h
    | freshnessDeadline record =>
      cases e
      exact event_keeps (fun u hu => withTags_ok (s := u) hu (expireRecord_fits hu.2.1 record u.now)) s h
    | queryEntryDeadline place => cases e; exact event_keeps (timeoutQuery_keeps place) s h
    | windowDeadline => cases e; exact event_keeps lapseWindow_keeps s h
    | leaseDeadline => cases e; exact event_keeps expireLease_keeps s h
    | idleDeadline => cases e; exact event_keeps expireTransfer_keeps s h
    | retryDeadline => cases e; exact event_keeps retryReport_keeps s h
    | storeCompletion verified => cases e; exact event_keeps (completeStore_keeps verified) s h
    | ack m seq =>
      have fits : Fits (ackPayload seq) := by simp [ackPayload, Config.payload]
      change arrival true m false (ackPayload seq) (State.takeAck m.source seq) s = .next t at e
      exact arrival_ok h (takeAck_keeps m.source seq) fits e
    | badMessage m toAll payload =>
      have fits := Laws.MessageFits.badMessage m toAll payload (CommandRows.wellFormed_of_next e) _ rfl
      exact arrival_ok (agent := State.countBadMessage) h (fun _ k => k) fits e
    | ignoredMessage m toAll payload =>
      have fits := Laws.MessageFits.ignoredMessage m toAll payload (CommandRows.wellFormed_of_next e) _ rfl
      exact arrival_ok (agent := State.countIgnoredMessage) h (fun _ k => k) fits e
    | identify m toAll seq args =>
      cases toAll with
      | true =>
        exact arrival_ok h (takeBroadcast_keeps (identify_fitting args) m seq)
          (Laws.MessageFits.fits (CommandRows.fits_of_next e)) e
      | false => cases c
    | _ => cases c

/-- Settles O59: a tick and the queue of commands bring no payload, and every row keeps each within its bound. -/
theorem payloadsStayInBounds : Obligations.PayloadsStayInBounds := by
  unfold Obligations.PayloadsStayInBounds
  intro s t h e
  unfold step at e
  split at e
  · cases e
    unfold State.tick
    split <;> exact h
  · next c rest _ => exact exec_ok (s := { s with pending := rest }) h e

end Sys2Proof.Machine.PayloadLaws
end

section
/-! The end of STARTING (R114, R192), the receptions that a port does not take (R97, R98, R114) and the recovery of a
SILENT side (R107, R108). Each is a change of a port, with one flag at most. -/

namespace Sys2Proof.Machine.DeliveryLaws

variable {s : State} {f : Flag}

/-! ## Events that set a flag -/

theorem mark_unreported (h : s.Unreported) : s.setFlag f = { s with events := s.events.mark f } := by
  have marked : s.events.setFlag s.agent.params s.now f = s.events.mark f := Events.setFlag_unreported _ _ _ _ h.2
  unfold State.setFlag
  rw [marked]

/-- Where no report can be made, an event that sets a flag does no more (R175). -/
theorem settle_mark (h : s.Unreported) : (s.setFlag f).settle = { s with events := s.events.mark f } := by
  rw [mark_unreported h]
  exact State.settle_of_quiet ((State.quiet_congr rfl).2 h.1)

/-- An event that sets a flag has set it at its end. -/
theorem settle_has (s : State) (f : Flag) : (s.setFlag f).settle.events.has f = true :=
  (State.grows_settle _).has (State.has_setFlag s f)

/-- An event of the running part, to its end. -/
theorem event_running {g : State → State} (run : s.phase = .running) : s.event g = (g s).settle :=
  if_pos (by simp [State.running, run])

end Sys2Proof.Machine.DeliveryLaws

namespace Sys2Proof.Machine.ReceptionLaws

open DeliveryLaws

variable {s : State} {side : Side} {bytes : List Byte}

/-! ## The end of STARTING -/

/-- The image flag that is due is set and no longer due (R192). -/
theorem setDue_eq (s : State) :
    s.setDue =
      s.image.flagDue.elim { s with image := { s.image with flagDue := none } } fun f =>
        { s with image := { s.image with flagDue := none } }.setFlag f := by
  unfold State.setDue
  cases due : s.image.flagDue with
  | some f => rfl
  | none =>
    have same : s.image = { s.image with flagDue := none } := by
      generalize s.image = x at due
      cases x
      cases due
      rfl
    exact congrArg (fun x => { s with image := x }) same

/-- The part as it begins to run, before the image flag is set (R114, R192). -/
def begun (busyA busyB : Bool) (s : State) : State :=
  { s with
    phase := .running
    now := 0
    ports := ⟨{ s.ports.a with awaitsStart := busyA }, { s.ports.b with awaitsStart := busyB }⟩
    image := { s.image with flagDue := none } }

theorem endStarting_eq {busyA busyB : Bool} (starting : s.phase = .starting) :
    s.endStarting busyA busyB =
      (s.image.flagDue.elim (begun busyA busyB s) fun f => (begun busyA busyB s).setFlag f).settle := by
  unfold State.endStarting
  simp only [starting, setDue_eq]
  rfl

/-- Settles O9: whatever the flag and its report bring, they touch the queues and the event unit alone. -/
theorem startingEndSetsTheImageFlag : Obligations.StartingEndSetsTheImageFlag := by
  unfold Obligations.StartingEndSetsTheImageFlag
  intro busyA busyB s starting
  have ended := endStarting_eq (busyA := busyA) (busyB := busyB) starting
  refine ⟨s.endStarting busyA busyB, rfl, ?_⟩
  rw [ended]
  set u := begun busyA busyB s with hu
  have grown : u.Grows (s.image.flagDue.elim u fun f => u.setFlag f).settle := by
    refine State.Grows.trans ?_ (State.grows_settle _)
    cases s.image.flagDue with
    | none => exact .refl u
    | some f => exact u.grows_setFlag f
  obtain ⟨phase, now, banks, tags, proxy, ports, trip, agent, image, -⟩ := grown.rest
  refine ⟨phase, now, fun f due => ?_, image, ports, banks, tags, proxy, trip, agent, fun unreported => ?_⟩
  · rw [due]
    exact settle_has u f
  · have still : u.Unreported := unreported
    cases s.image.flagDue with
    | none =>
      dsimp only [Option.elim]
      rw [State.settle_of_quiet still.1]
      rfl
    | some f =>
      dsimp only [Option.elim]
      rw [settle_mark still]
      rfl

/-! ## Receptions that are not taken -/

/-- A reception as an event. -/
theorem exec_reception (run : s.phase = .running) :
    exec (.reception side bytes) s = .next (s.receive side bytes).settle :=
  congrArg Host.Outcome.next (event_running run)

theorem receive_passedOver (awaits : (s.ports.get side).awaitsStart = true) :
    s.receive side bytes = s.passOver side := if_pos awaits

theorem receive_whileOff (begins : (s.ports.get side).awaitsStart = false) (off : (s.ports.get side).state = .off) :
    s.receive side bytes = s.receiveOff side := by
  unfold State.receive State.endOfFrame
  rw [if_neg (by simp [begins]), if_pos off]

theorem receive_bad (h : s.Receives side) (bad : readFrame bytes = none) :
    s.receive side bytes = s.receiveBad side := by
  unfold State.receive
  rw [State.endOfFrame_receives h, bad]

/-- Nothing but the port's own count changes at an OFF side (R98). -/
theorem receiveOff_eq (s : State) (side : Side) :
    s.receiveOff side =
      { s with
        ports := s.ports.modify side fun p =>
          { p with
            acknowledged := false
            counters := { p.counters with receivedWhileOff := bump p.counters.receivedWhileOff } } } := by
  cases side <;> rfl

/-- A bad frame counted at its port (R97). -/
def badCounted (side : Side) (s : State) : State :=
  { s with
    ports := s.ports.modify side fun p =>
      { p with acknowledged := false, counters := { p.counters with badFrame := bump p.counters.badFrame } } }

theorem receiveBad_eq (s : State) (side : Side) :
    s.receiveBad side = (badCounted side s).setFlag (.badFrame side) := by
  cases side <;> rfl

@[simp] theorem steady_badCounted (s : State) (side : Side) : (badCounted side s).steady = s.steady := by
  cases side <;> rfl

/-- Settles O10: each reception by the law of its port. -/
theorem portsDiscardWhatTheyMayNotTake : Obligations.PortsDiscardWhatTheyMayNotTake := by
  unfold Obligations.PortsDiscardWhatTheyMayNotTake
  refine ⟨fun side bytes s run quiet => ⟨fun awaits => ?_, fun begins off => ?_⟩, fun side bytes s takes bad => ?_⟩
  · rw [exec_reception run, receive_passedOver awaits, State.passOver_eq]
    exact congrArg Host.Outcome.next (State.settle_of_quiet ((State.quiet_congr (s := s) rfl).2 quiet))
  · rw [exec_reception run, receive_whileOff begins off, receiveOff_eq]
    exact congrArg Host.Outcome.next (State.settle_of_quiet ((State.quiet_congr (s := s) rfl).2 quiet))
  · have next := exec_reception (side := side) (bytes := bytes) takes.1
    rw [receive_bad takes bad, receiveBad_eq] at next
    set u := badCounted side s with hu
    have grown : u.Grows (u.setFlag (.badFrame side)).settle := (u.grows_setFlag _).trans (State.grows_settle _)
    obtain ⟨-, -, banks, -, -, ports, -, agent, -⟩ := grown.rest
    refine ⟨_, next, grown.steady.trans (steady_badCounted s side), banks, agent, ports, settle_has u _,
      fun unreported => ?_⟩
    rw [settle_mark (s := u) unreported]
    exact ⟨rfl, rfl⟩

end Sys2Proof.Machine.ReceptionLaws

namespace Sys2Proof.Machine.SideLaws

open DeliveryLaws EgressLaws ReadLaws

variable {s t u : State} {m : Arrival} {seq : Byte} {side : Side} {x : Session}

/-! ## Recovery (R107, R108) -/

/-- The port of a side that recovers, the recovery counted by `f`. -/
def recoveredPort (f : PortCounters → PortCounters) (p : Port) : Port :=
  { p with state := .active, score := 0, recovery := none, counters := f p.counters }

theorem recover_eq (s : State) (side : Side) (f : PortCounters → PortCounters) :
    s.recover side f = (s.onPort side (recoveredPort f)).setFlag (.recovered side) := rfl

/-- A SILENT side whose recovery deadline is reached recovers. -/
theorem autoRecover_due {d : CTime} (silent : (s.ports.get side).state = .silent)
    (waits : (s.ports.get side).recovery = some d) (past : reached s.now d = true) :
    s.autoRecover side =
      s.recover side fun c => { c with automaticRecovery := bump c.automaticRecovery } := by
  unfold State.autoRecover
  exact if_pos ⟨silent, by rw [waits]; exact past⟩

/-- A recovery counted as commanded (R108). -/
def countCommanded (c : PortCounters) : PortCounters := { c with commandedRecovery := bump c.commandedRecovery }

/-- SIDE_CONTROL RECOVER of a SILENT side. -/
theorem sideControl_recover (silent : (s.ports.get side).state = .silent) :
    (sideControlCommand [side.code, 2]).run s = (s.recover side countCommanded, ⟨.ok, [side.code, 0, 0]⟩) := by
  have acts : s.sideAction side .recover = some (s.recover side countCommanded) := by
    unfold State.sideAction
    rw [silent]
    rfl
  have run : (sideControlCommand [side.code, 2]).run s = runSideControl side .recover s := by
    simp only [sideControlCommand, ownerCommand, ofCode_code]
    rfl
  have port : (s.recover side countCommanded).ports.get side = recoveredPort countCommanded (s.ports.get side) :=
    PerSide.get_modify _ _ _
  rw [run, runSideControl, acts]
  simp only [State.sideReply, port]
  rfl

/-- Delivering a message counts no recovery. -/
theorem delivered_commandedRecovery (s : State) (m : Arrival) (side : Side) :
    ((s.delivered m).ports.get side).counters.commandedRecovery =
      (s.ports.get side).counters.commandedRecovery := by
  change ((s.ports.modify m.side _).get side).counters.commandedRecovery = _
  rw [PerSide.get_modify_at]
  split <;> rfl

/-- A side that recovers takes no room, and the response goes to another side. -/
theorem recover_room (room : s.Room m.side) (f : PortCounters → PortCounters) :
    (s.recover side f).Room m.side := by
  obtain ⟨takes, below, slot⟩ := room
  refine ⟨?_, below, slot⟩
  rw [recover_eq, State.setFlag_ports, State.onPort_ports, PerSide.get_modify_at]
  split
  · rfl
  · exact takes

/-- Settles O28: the deadline as an event of the port, RECOVER as a command of the owner. -/
theorem silentSidesRecover : Obligations.SilentSidesRecover := by
  unfold Obligations.SilentSidesRecover
  refine ⟨?_, ?_⟩
  · intro side d s run silent waits past
    have next : exec (.recoveryDeadline side) s = .next (s.autoRecover side).settle :=
      congrArg Host.Outcome.next (event_running run)
    rw [autoRecover_due silent waits past, recover_eq] at next
    set u := s.onPort side (recoveredPort fun c => { c with automaticRecovery := bump c.automaticRecovery }) with hu
    have grown : u.Grows (u.setFlag (.recovered side)).settle := (u.grows_setFlag _).trans (State.grows_settle _)
    obtain ⟨-, -, banks, tags, proxy, ports, trip, agent, image, -⟩ := grown.rest
    refine ⟨_, next, settle_has u _, ports, banks, tags, proxy, trip, agent, image, fun unreported => ?_⟩
    rw [settle_mark (s := u) unreported]
    exact ⟨rfl, rfl⟩
  · intro m seq side x s hears silent
    obtain ⟨view, -⟩ := delivered_port s m side
    obtain ⟨viewFar, -⟩ := delivered_port s m side.far
    have state : ((s.delivered m).ports.get side).state = (s.ports.get side).state := congrArg PortView.state view
    have run := sideControl_recover (s := s.delivered m) (side := side) (by rw [state]; exact silent)
    set u := (s.delivered m).recover side countCommanded with hu
    set r : Response := ⟨seq, 0x13, .ok, [side.code, 0, 0]⟩
    have session : u.agent.session = some x := hears.2.1
    obtain ⟨new, owned⟩ := HearsOwner.lets hears
    have next : exec (.sideControlRecover m seq side.code) s = .next (u.finish true m r).settle := by
      have e := addressed_owner (args := [side.code, 2]) (c := sideControlCommand [side.code, 2]) hears rfl
      rw [run] at e
      exact e
    obtain ⟨t, e, steady, flags⟩ := addressed_owner_steady (args := [side.code, 2])
      (c := sideControlCommand [side.code, 2]) hears rfl run session hears.2.2.1
    obtain rfl : (u.finish true m r).settle = t := Host.Outcome.next.inj (next.symm.trans e)
    obtain ⟨ports, -⟩ := finish_ports u m r
    have here : u.ports.get side = recoveredPort countCommanded ((s.delivered m).ports.get side) :=
      PerSide.get_modify _ _ _
    have far : u.ports.get side.far = (s.delivered m).ports.get side.far := PerSide.get_far_modify _ _ _
    refine ⟨_, next, flags _ (State.has_setFlag _ _), ?_, ?_, ?_, fun unreported room => ?_, ?_⟩
    · rw [ports, here, ← view]; rfl
    · rw [ports, far, viewFar]
    · rw [ports, here]
      exact congrArg bump (delivered_commandedRecovery s m side)
    · have marked := mark_unreported (f := .recovered side)
        (s := (s.delivered m).onPort side (recoveredPort countCommanded)) unreported
      rw [← recover_eq, ← hu] at marked
      have only := addressed_room (args := [side.code, 2]) (c := sideControlCommand [side.code, 2]) hears.1 new
        (fun _ => owned) rfl run ((State.quiet_congr (by rw [marked]; rfl)).2 unreported.1)
        (recover_room (delivered_room (m := m) room) countCommanded)
      rw [Host.Outcome.next.inj (next.symm.trans only), State.answeredBy,
        keepResponse_owner (s := u) _ session hears.2.2.1, marked]
      cases side <;> rfl
    · refine steady_of_ports steady ?_
      rw [hu, ← State.steady_delivered s m]
      rfl

end Sys2Proof.Machine.SideLaws
end

section
/-! Commands that a state refuses (R108, R110, R120 to R122, R124, R139, R140, R156, R161, R164, R165, R169, R187): each
rule answers without a change, and such an answer leaves the session alone changed. -/

namespace Sys2Proof.Machine.RefusalLaws

open DeliveryLaws ReadLaws

variable {s u : State} {m : Arrival} {seq code : Byte} {args : Payload} {status : Status} {x : Session}

/-! ## An answer that changes nothing -/

/-- The owner's new command whose rule leaves the state as it is. -/
theorem answers_of_run (h : s.HearsOwner m seq x) {i : Instr} (w : i.wellFormed = true)
    (c : i.command = some (m, seq, code)) (rule : Command) (is : commandFor m seq code i.args = rule)
    (run : rule.run (s.delivered m) = (s.delivered m, ⟨status, args⟩)) : s.Answers i m seq x code status args := by
  subst is
  obtain ⟨fit, row⟩ := CommandRows.command_row w c
  obtain ⟨same, -⟩ := CommandRows.commandFor_head m seq code i.args
  obtain ⟨t, next, only, steady⟩ := RecordLaws.addressed_tags (t := (s.delivered m).tags) h fit run
  rw [same] at only steady
  exact ⟨t, (row s).trans next, only, steady⟩

/-! ## The shadow state (Table 6-2, R165, R169) -/

theorem writeEntry_refused (len : args.length = 13) (refused : u.banks.shadowState.refusesEdit = some status) :
    (writeEntryCommand args).run u = (u, bareReply status) := by
  obtain ⟨index, body, rfl⟩ : ∃ a rest, args = a :: rest := List.exists_cons_of_ne_nil (by rintro rfl; cases len)
  have twelve : ¬body.length ≠ 12 := by simpa using len
  simp only [writeEntryCommand, ownerCommand, if_neg twelve, inClean, refused]

theorem writeMasksDefaults_refused (len : args.length = 15)
    (refused : u.banks.shadowState.refusesEdit = some status) :
    (writeMasksDefaultsCommand args).run u = (u, bareReply status) := by
  have fifteen : ¬args.length ≠ 15 := by simpa using len
  simp only [writeMasksDefaultsCommand, ownerCommand, if_neg fifteen, inClean, refused]

theorem commit_refused (refused : u.banks.shadowState.refusesEdit = some status) :
    (commitCommand []).run u = (u, bareReply status) := by
  simp only [commitCommand, ownerCommand, noArguments, if_true, inClean, refused]

/-- LOADING, with its transfer. -/
theorem loading_of_isLoading {z : ShadowState} (h : z.isLoading = true) : ∃ tr, z = .loading tr := by
  cases z with
  | loading tr => exact ⟨tr, rfl⟩
  | clean | incomplete => cases h

theorem copyActive_refused (loading : u.banks.shadowState.isLoading = true) :
    (copyActiveCommand []).run u = (u, bareReply .busy) := by
  obtain ⟨tr, is⟩ := loading_of_isLoading loading
  simp only [copyActiveCommand, ownerCommand, noArguments, if_true, runCopyActive, is]

theorem loadBegin_refused (loading : u.banks.shadowState.isLoading = true) (count : Byte) :
    (loadBeginCommand [count]).run u = (u, bareReply .busy) := by
  obtain ⟨tr, is⟩ := loading_of_isLoading loading
  simp only [loadBeginCommand, ownerCommand, runLoadBegin, is]

theorem loadPart_refused (idle : u.banks.shadowState.isLoading = false) (part b : Byte) (item : Payload) :
    (loadPartCommand (part :: b :: item)).run u = (u, ⟨.badState, [part, 0, u.banks.shadowState.code]⟩) := by
  simp only [loadPartCommand, runLoadPart]
  cases is : u.banks.shadowState with
  | loading tr => rw [is] at idle; cases idle
  | clean | incomplete => rfl

theorem loadEnd_refused (idle : u.banks.shadowState.isLoading = false) (h l : Byte) :
    (loadEndCommand [h, l]).run u = (u, bareReply .badState) := by
  simp only [loadEndCommand, ownerCommand, runLoadEnd]
  cases is : u.banks.shadowState with
  | loading tr => rw [is] at idle; cases idle
  | clean | incomplete => rfl

/-! ## The side state (R108 to R110) -/

/-- SIDE_CONTROL as its rule on the side and action it names. -/
theorem sideControl_run (side : Side) (action : SideAction) (u : State) :
    (sideControlCommand [side.code, action.code]).run u = runSideControl side action u := by
  simp only [sideControlCommand, ownerCommand, ofCode_code]
  cases action <;> rfl

theorem sideOn_refused {side : Side} (on : (u.ports.get side).state ≠ .off) :
    runSideControl side .on u = (u, u.sideReply .badState side) := by
  unfold runSideControl State.sideAction
  cases state : (u.ports.get side).state
  case off => exact absurd state on
  all_goals rfl

theorem recover_refused {side : Side} (heard : (u.ports.get side).state ≠ .silent) :
    runSideControl side .recover u = (u, u.sideReply .badState side) := by
  unfold runSideControl State.sideAction
  cases state : (u.ports.get side).state
  case silent => exact absurd state heard
  all_goals rfl

theorem sideOff_again {side : Side} (off : (u.ports.get side).state = .off) :
    runSideControl side .off u = (u, u.sideReply .ok side) := by
  unfold runSideControl State.sideAction
  rw [off]

/-- The delivery of a command does not show in what SIDE_CONTROL answers. -/
theorem sideReply_delivered (s : State) (m : Arrival) (status : Status) (side : Side) :
    (s.delivered m).sideReply status side =
      ⟨status, [side.code, (s.ports.get side).state.code, countByte (s.ports.get side).score]⟩ := by
  obtain ⟨view, -⟩ := SideLaws.delivered_port s m side
  have state : ((s.delivered m).ports.get side).state = (s.ports.get side).state := congrArg PortView.state view
  have score : ((s.delivered m).ports.get side).score = (s.ports.get side).score := congrArg PortView.score view
  rw [State.sideReply, state, score]

/-- A SIDE_CONTROL that leaves the state as it is, its side's state read before or after its delivery. -/
theorem sideControl_answers (h : s.HearsOwner m seq x) {i : Instr} (w : i.wellFormed = true)
    (c : i.command = some (m, seq, 0x13)) {side : Side} (action : SideAction) (is : i.args = [side.code, action.code])
    (rule : ((s.delivered m).ports.get side).state = (s.ports.get side).state →
      runSideControl side action (s.delivered m) = (s.delivered m, (s.delivered m).sideReply status side)) :
    s.Answers i m seq x 0x13 status
      [side.code, (s.ports.get side).state.code, countByte (s.ports.get side).score] := by
  have run := rule (congrArg PortView.state (SideLaws.delivered_port s m side).1)
  rw [sideReply_delivered] at run
  exact answers_of_run h w c (sideControlCommand [side.code, action.code]) (by rw [is]; rfl)
    ((sideControl_run side action _).trans run)

/-! ## Parameters (R156) -/

theorem setConfig_refused {item vh vl : Byte} {i : ParamId} (name : ParamId.ofCode item = some i)
    (low : i.range.1 ≤ (vh ++ vl).toNat) (high : (vh ++ vl).toNat ≤ i.range.2)
    (refused : u.refusesConfig i (vh ++ vl) = true) :
    (setConfigCommand [item, vh, vl]).run u = (u, bareReply .badState) := by
  have admitted : i.admits (vh ++ vl) = true := by
    rw [ParamId.admits, Bool.and_eq_true, decide_eq_true_eq, decide_eq_true_eq]
    exact ⟨low, high⟩
  simp only [setConfigCommand, ownerCommand, name, admitted, refused, Bool.not_true, Bool.false_eq_true, if_false,
    if_true]

/-- A ceiling below the queue's length, or the owner's own station, is refused (R156 steps 3 and 4). -/
theorem refusesConfig_of {i : ParamId} {v : BitVec 16} (session : u.agent.session = some x)
    (h : (∃ side, i = .ceiling side ∧ v.toNat < (u.queues.frames.get side).length) ∨
      i = .ownStation ∧ x.owner.toNat = v.toNat) : u.refusesConfig i v = true := by
  rcases h with ⟨side, rfl, below⟩ | ⟨rfl, own⟩
  · exact decide_eq_true below
  · have same : x.owner = v.setWidth 12 := by
      apply BitVec.eq_of_toNat_eq
      have := x.owner.isLt
      rw [BitVec.toNat_setWidth, ← own, Nat.mod_eq_of_lt this]
    simp only [State.refusesConfig, session, same, beq_self_eq_true]

/-! ## The trip unit (R139, R140) -/

theorem setTrip_tripped (tripped : u.trip.state = .tripped) (len : args.length = 15) :
    (setTripCommand args).run u = (u, ⟨.badState, [3]⟩) := by
  have fifteen : ¬args.length ≠ 15 := by simpa using len
  simp only [setTripCommand, ownerCommand, if_neg fifteen, runSetTrip, tripped, if_true]
  rfl

/-- A trip configuration is read from 15 bytes. -/
theorem tripConfig_length {c : TripConfig} (h : TripConfig.ofBytes args = some c) : args.length = 15 := by
  unfold TripConfig.ofBytes at h
  split at h
  · rfl
  · cases h

/-- A number of a rising list, with those before it. -/
theorem finRange_split {n : Nat} (k : Fin n) : ∃ pre post, List.finRange n = pre ++ k :: post ∧ ∀ j ∈ pre, j < k := by
  obtain ⟨pre, post, split⟩ := List.append_of_mem (List.mem_finRange k)
  have rising := List.pairwise_lt_finRange n
  rw [split] at rising
  exact ⟨pre, post, split, fun j hj => (List.pairwise_append.1 rising).2.2 j hj k List.mem_cons_self⟩

/-- The lowest number that answers is the one found. -/
theorem findSome?_lowest {n : Nat} {α : Type} {f : Fin n → Option α} {k : Fin n} {a : α} (found : f k = some a)
    (below : ∀ j < k, f j = none) : (List.finRange n).findSome? f = some a := by
  obtain ⟨pre, post, split, before⟩ := finRange_split k
  exact List.findSome?_eq_some_iff.2 ⟨pre, k, post, split, found, fun j hj => below j (before j hj)⟩

theorem find?_lowest {n : Nat} {p : Fin n → Bool} {k : Fin n} (found : p k = true) (below : ∀ j < k, p j = false) :
    (List.finRange n).find? p = some k := by
  obtain ⟨pre, post, split, before⟩ := finRange_split k
  exact List.find?_eq_some_iff_append.2
    ⟨found, pre, post, split, fun j hj => by rw [below j (before j hj)]; rfl⟩

/-- The first missing source and the first entry that names it (R140 step 4). -/
theorem missingSource_lowest {b : Banks} {c : TripConfig} {k : Fin 4} {i : Fin 64} (undefined : c.sources[k] = none)
    (names : b.active.namesSource k i = true)
    (lowest : ∀ (k' : Fin 4) (j : Fin 64), c.sources[k'] = none → b.active.namesSource k' j = true →
      k < k' ∨ k = k' ∧ i ≤ j) : b.missingSource c = some (k, i) := by
  have first : (List.finRange 64).find? (b.active.namesSource k) = some i := by
    refine find?_lowest names fun j lt => Bool.eq_false_iff.2 fun named => ?_
    rcases lowest k j undefined named with less | ⟨-, le⟩
    · exact absurd less (lt_irrefl k)
    · exact absurd le (not_le.2 lt)
  refine findSome?_lowest (k := k) ?_ fun j lt => ?_
  · simp [undefined, first]
  · split
    · rfl
    · next missing =>
      have absent : c.sources[j] = none := by simpa using missing
      have unnamed : (List.finRange 64).find? (b.active.namesSource j) = none := by
        refine List.find?_eq_none.2 fun e _ named => ?_
        rcases lowest j e absent named with less | ⟨rfl, -⟩
        · exact absurd (lt.trans less) (lt_irrefl j)
        · exact absurd lt (lt_irrefl k)
      rw [unnamed]
      rfl

theorem setTrip_missing {c : TripConfig} {k : Fin 4} {i : Fin 64} (watching : u.trip.state ≠ .tripped)
    (read : TripConfig.ofBytes args = some c) (missing : u.banks.missingSource c = some (k, i)) :
    (setTripCommand args).run u =
      (u, ⟨.badState, [u.trip.state.code, countByte k.val, countByte i.val]⟩) := by
  have fifteen : ¬args.length ≠ 15 := by simpa using tripConfig_length read
  simp only [setTripCommand, ownerCommand, if_neg fifteen, runSetTrip, if_neg watching, read, missing]

theorem releaseTrip_refused (watching : u.trip.state ≠ .tripped) :
    (releaseTripCommand []).run u = (u, ⟨.badState, [u.trip.state.code]⟩) := by
  simp only [releaseTripCommand, ownerCommand, noArguments, if_true, runReleaseTrip, if_neg watching]

/-! ## The image store (R161, R187) -/

theorem store_refused {w : Storing} (writing : u.image.store = some w) :
    (storeCommand []).run u = (u, ⟨.busy, [w.target.code]⟩) := by
  simp only [storeCommand, ownerCommand, noArguments, if_true, runStore, writing]

theorem restart_refused {w : Storing} (writing : u.image.store = some w) :
    (restartCommand []).run u = (u, bareReply .busy) := by
  simp only [restartCommand, ownerCommand, noArguments, if_true, runRestart, writing]

/-! ## The answers -/

/-- The statuses that Table 6-2 gives outside CLEAN. -/
theorem refusesEdit_of {z : ShadowState}
    (h : (∃ tr, z = .loading tr) ∧ status = .busy ∨ z = .incomplete ∧ status = .badState) :
    z.refusesEdit = some status := by
  rcases h with ⟨⟨tr, rfl⟩, rfl⟩ | ⟨rfl, rfl⟩ <;> rfl

/-- Arguments of a length that fits a message. -/
theorem argsFit_of {n : Nat} (len : args.length = n) (small : n ≤ 20) : argsFit args = true :=
  decide_eq_true (len ▸ small)

/-- Settles O44: each refusal by its rule, which the delivery of the command does not move. -/
theorem statesRefuseOwnerCommands : Obligations.StatesRefuseOwnerCommands := by
  unfold Obligations.StatesRefuseOwnerCommands
  intro m seq x s args status h
  refine ⟨fun shadow => ?_, fun loading => ⟨?_, fun count => ?_⟩, fun idle => ⟨fun part b item short => ?_, fun a b => ?_⟩,
    fun side => ⟨fun on => ?_, fun heard => ?_, fun off => ?_⟩, ?_, fun tripped len => ?_, ?_, fun watching => ?_,
    fun w writing => ⟨?_, ?_⟩⟩
  · have refused := refusesEdit_of shadow
    refine ⟨fun len => ?_, fun len => ?_, ?_⟩
    · exact answers_of_run h (argsFit_of len (by decide)) rfl (writeEntryCommand args) rfl
        (writeEntry_refused (u := s.delivered m) len refused)
    · exact answers_of_run h (argsFit_of len (by decide)) rfl (writeMasksDefaultsCommand args) rfl
        (writeMasksDefaults_refused (u := s.delivered m) len refused)
    · exact answers_of_run h rfl rfl (commitCommand []) rfl (commit_refused (u := s.delivered m) refused)
  · exact answers_of_run h rfl rfl (copyActiveCommand []) rfl (copyActive_refused (u := s.delivered m) loading)
  · exact answers_of_run h rfl rfl (loadBeginCommand [count]) rfl
      (loadBegin_refused (u := s.delivered m) loading count)
  · have fit : argsFit (part :: b :: item) = true := decide_eq_true (Nat.succ_le_succ short)
    exact answers_of_run h fit rfl (loadPartCommand (part :: b :: item)) rfl
      (loadPart_refused (u := s.delivered m) idle part b item)
  · exact answers_of_run h rfl rfl (loadEndCommand [a, b]) rfl (loadEnd_refused (u := s.delivered m) idle a b)
  · exact sideControl_answers h rfl rfl .on rfl fun same => sideOn_refused (by rw [same]; exact on)
  · exact sideControl_answers h rfl rfl .recover rfl fun same => recover_refused (by rw [same]; exact heard)
  · have again : s.Answers (.sideControlOff m seq side.code) m seq x 0x13 .ok _ :=
      sideControl_answers h rfl rfl .off rfl fun same => sideOff_again (by rw [same]; exact off)
    rw [off] at again
    exact again
  · rintro item vh vl v i name rfl low high refused
    exact answers_of_run h rfl rfl (setConfigCommand [item, vh, vl]) rfl
      (setConfig_refused name low high (refusesConfig_of (u := s.delivered m) h.2.1 refused))
  · exact answers_of_run h (argsFit_of len (by decide)) rfl (setTripCommand args) rfl
      (setTrip_tripped (u := s.delivered m) tripped len)
  · intro c k i watching read undefined inUse names lowest
    have named : ∀ (k' : Fin 4) (j : Fin 64), s.banks.active.namesSource k' j = true ↔
        (s.banks.active.entries[j]).inUse = true ∧ (s.banks.active.entries[j]).trip = some k' := by
      simp [Bank.namesSource]
    have missing : (s.delivered m).banks.missingSource c = some (k, i) :=
      missingSource_lowest undefined ((named k i).2 ⟨inUse, names⟩) fun k' j absent found =>
        lowest k' j absent ((named k' j).1 found).1 ((named k' j).1 found).2
    exact answers_of_run h (argsFit_of (tripConfig_length read) (by decide)) rfl (setTripCommand args) rfl
      (setTrip_missing (u := s.delivered m) watching read missing)
  · exact answers_of_run h rfl rfl (releaseTripCommand []) rfl (releaseTrip_refused (u := s.delivered m) watching)
  · exact answers_of_run h rfl rfl (storeCommand []) rfl (store_refused (u := s.delivered m) writing)
  · exact answers_of_run h rfl rfl (restartCommand []) rfl (restart_refused (u := s.delivered m) writing)

end Sys2Proof.Machine.RefusalLaws
end

section
/-! Flags that raise a group, and the report that this makes (R174, R175, R178 to R180): what the full list gives up, and
the report of a bad frame sent in the event that makes it (R97). -/

namespace Sys2Proof.Machine.ReportLaws

open DeliveryLaws ReceptionLaws

variable {p : Params} {now : CTime} {f : Flag} {g : Group} {ev : Events}

/-! ## A report made and placed -/

/-- A report as it is made, its snapshot not yet fixed (R175, Table 10-2). -/
def made (g : Group) (level : Nat) (now : CTime) (ev : Events) : Report where
  seq := ev.nextSeq
  group := g
  level := level
  snapshot := ev.flags.get g
  time := now
  outstanding := ev.reports.isEmpty
  sends := 0
  retry := none
  making := true

/-- Below 8 reports a new one takes its place in the list (R178). -/
theorem place_room (level : Nat) (few : ev.reports.length < 8) :
    ev.place g level now =
      ({ ev with
          reports := insertReport (made g level now ev) ev.reports
          nextSeq := ev.nextSeq + 1
          counters := { ev.counters with created := bump ev.counters.created } }, false) := by
  unfold Events.place
  exact if_pos few

/-- Into a full list a report of higher level takes the place of the newest of the lowest, else it is discarded
(R179). -/
theorem place_full {level low : Nat} (full : ev.reports.length = 8) (lowest : lowestLevel ev.reports = some low) :
    ev.place g level now =
      ({ ev with
          reports :=
            if low < level then insertReport (made g level now ev) (dropNewest low ev.reports) else ev.reports
          nextSeq := ev.nextSeq + 1
          counters :=
            { ev.counters with
              created := bump ev.counters.created
              discarded := bump ev.counters.discarded } }, true) := by
  unfold Events.place
  simp only [full, Config.reports, lt_irrefl, if_false, lowest]
  split <;> rfl

/-! ## The report given up (R179) -/

variable {pre post rs : List Report} {y : Report}

/-- The lowest level of the reports that are not outstanding. -/
theorem lowestLevel_of (mem : y ∈ rs) (waits : y.outstanding = false)
    (lowest : ∀ z ∈ rs, z.outstanding = false → y.level ≤ z.level) : lowestLevel rs = some y.level := by
  unfold lowestLevel
  refine List.min?_eq_some_iff.2 ⟨?_, ?_⟩
  · exact List.mem_map.2 ⟨y, List.mem_filter.2 ⟨mem, by simp [waits]⟩, rfl⟩
  · intro level hl
    obtain ⟨z, hz, rfl⟩ := List.mem_map.1 hl
    obtain ⟨inside, off⟩ := List.mem_filter.1 hz
    exact lowest z inside (by simpa using off)

/-- The last report of a level that is not outstanding is the one dropped. -/
theorem dropNewest_last (waits : y.outstanding = false)
    (last : ∀ z ∈ post, z.outstanding = false → z.level ≠ y.level) :
    dropNewest y.level (pre ++ y :: post) = pre ++ post := by
  have passed : ∀ z ∈ post.reverse, ¬(z.level == y.level && !z.outstanding) = true := by
    intro z hz found
    simp only [Bool.and_eq_true, beq_iff_eq, Bool.not_eq_true'] at found
    exact last z (List.mem_reverse.1 hz) found.2 found.1
  unfold dropNewest
  rw [List.reverse_append, List.reverse_cons, List.append_assoc, List.eraseP_append_right _ passed]
  simp [waits]

/-! ## Flags (R174, R175) -/

/-- A flag that raises no group, or that no station hears of, is set and nothing else happens. -/
theorem setFlag_marks (h : ev.raised f.group = true ∨ (ev.mark f).raised f.group = false ∨ p.reportStation = 4095) :
    ev.setFlag p now f = ev.mark f := by
  rcases h with h | h | h
  · exact Events.setFlag_quiet p now ev f (.inl h)
  · exact Events.setFlag_quiet p now ev f (.inr h)
  · exact Events.setFlag_unreported p now ev f h

/-- A flag that is enabled raises its group (R174). -/
theorem raised_mark (enabled : (ev.enables.get f.group &&& f.bit) ≠ 0) : (ev.mark f).raised f.group = true := by
  unfold Events.raised Events.mark
  rw [PerGroup.get_set, bne_iff_ne, BitVec.and_comm, BitVec.and_or_distrib_left]
  exact fun none => enabled (BitVec.or_eq_zero_iff.1 none).2

/-- A flag that raises its group makes a report for the station (R175). -/
theorem raise_reports (before : ev.raised f.group = false) (after : (ev.mark f).raised f.group = true)
    (station : p.reportStation ≠ 4095) :
    ev.raise p now f = (ev.mark f).place f.group (p.levels.get f.group) now := by
  unfold Events.raise Events.report
  rw [if_pos (by rw [before, after]; rfl)]
  exact if_neg station

/-- Below 8 reports the one made is placed, and no more happens (R178). -/
theorem setFlag_room (before : ev.raised f.group = false) (after : (ev.mark f).raised f.group = true)
    (station : p.reportStation ≠ 4095) (few : ev.reports.length < 8) :
    ev.setFlag p now f =
      { ev.mark f with
        reports := insertReport (made f.group (p.levels.get f.group) now (ev.mark f)) ev.reports
        nextSeq := ev.nextSeq + 1
        counters := { ev.counters with created := bump ev.counters.created } } := by
  unfold Events.setFlag
  rw [raise_reports before after station, place_room (ev := ev.mark f) _ few]
  rfl

/-- A flag is one bit. -/
theorem or_bit (x : BitVec 16) (f : Flag) (set : (x &&& f.bit) ≠ 0) : x ||| f.bit = x := by
  have power : f.bit = BitVec.twoPow 16 f.position := rfl
  have on : x.getLsbD f.position = true := by
    by_contra off
    rw [power, BitVec.and_twoPow, if_neg off] at set
    exact set rfl
  rw [power]
  refine BitVec.eq_of_getLsbD_eq fun i below => ?_
  rw [BitVec.getLsbD_or, BitVec.getLsbD_twoPow]
  by_cases at_ : f.position = i
  · rw [← at_, on, Bool.true_or]
  · simp [at_]

theorem mark_has (set : ev.has f = true) : ev.mark f = ev := by
  have bits : ev.flags.get f.group ||| f.bit = ev.flags.get f.group :=
    or_bit _ f (by simpa [Events.has] using set)
  have same : ev.flags.set f.group (ev.flags.get f.group) = ev.flags := by cases f.group <;> rfl
  unfold Events.mark
  rw [bits, same]

/-- Setting a flag that is set changes nothing. -/
theorem raise_again (set : ev.has f = true) : ev.raise p now f = (ev, false) := by
  unfold Events.raise
  rw [mark_has set]
  exact if_neg (by simp)

/-- After a discard, REPORT_DISCARDED is set as any flag is: if its own report is discarded too, the flag stands, and
setting it again changes nothing (R179). -/
theorem afterDiscard_eq : ev.afterDiscard p now = ev.setFlag p now .reportDiscarded := by
  have set : (ev.raise p now .reportDiscarded).1.has .reportDiscarded = true := Events.has_raise p now ev (.inr rfl)
  unfold Events.afterDiscard Events.setFlag
  generalize ev.raise p now .reportDiscarded = a at set
  match a with
  | (_, false) => rfl
  | (e, true) => exact (congrArg Prod.fst (raise_again (p := p) (now := now) set)).symm

/-- Into a full list the report goes in the place of the newest of the lowest level, if its own is higher; the report
given up is counted, and then REPORT_DISCARDED is set (R179). -/
theorem setFlag_full (before : ev.raised f.group = false) (after : (ev.mark f).raised f.group = true)
    (station : p.reportStation ≠ 4095) (full : ev.reports.length = 8) (list : ev.reports = pre ++ y :: post)
    (waits : y.outstanding = false) (lowest : ∀ z ∈ ev.reports, z.outstanding = false → y.level ≤ z.level)
    (last : ∀ z ∈ post, z.outstanding = false → z.level ≠ y.level) :
    ev.setFlag p now f =
      { ev.mark f with
        reports :=
          if y.level < p.levels.get f.group then
            insertReport (made f.group (p.levels.get f.group) now (ev.mark f)) (pre ++ post)
          else ev.reports
        nextSeq := ev.nextSeq + 1
        counters :=
          { ev.counters with
            created := bump ev.counters.created
            discarded := bump ev.counters.discarded } }.setFlag p now .reportDiscarded := by
  have low : lowestLevel (ev.mark f).reports = some y.level :=
    lowestLevel_of (by rw [Events.mark_reports, list]; simp) waits lowest
  have dropped : dropNewest y.level (ev.mark f).reports = pre ++ post := by
    rw [Events.mark_reports, list]
    exact dropNewest_last waits last
  rw [← afterDiscard_eq]
  conv_lhs => unfold Events.setFlag
  rw [raise_reports before after station, place_full (ev := ev.mark f) full low, dropped]
  rfl

/-! ## The event that makes a report -/

/-- A change of the report inserted, of those that differ from what they become, is a change of that report. -/
theorem map_insertReport {r : Report} {g : Report → Report} (level : (g r).level = r.level)
    (others : ∀ z ∈ rs, g z = z) : (insertReport r rs).map g = insertReport (g r) rs := by
  induction rs with
  | nil => rfl
  | cons z zs ih =>
    obtain ⟨head, tail⟩ := List.forall_mem_cons.1 others
    unfold insertReport
    rw [level]
    split
    · rw [List.map_cons, head, ih tail]
    · rw [List.map_cons, List.map_cons, head, List.map_congr_left (g := id) tail, List.map_id]

/-- The one report in the making takes its snapshot (Table 10-2). -/
theorem fixSnapshots_insert {r : Report} (list : ev.reports = insertReport r rs) (making : r.making = true)
    (others : ∀ z ∈ rs, z.making = false) :
    ev.fixSnapshots =
      { ev with reports := insertReport { r with snapshot := ev.flags.get r.group, making := false } rs } := by
  unfold Events.fixSnapshots
  rw [list, map_insertReport (by rw [if_pos making]) fun z hz => by simp [others z hz], if_pos making]

variable {s : State}

/-- Where no send is due once the snapshots are fixed, no more happens. -/
theorem settle_fixed (quiet : s.fixSnapshots.Quiet) : s.settle = s.fixSnapshots := by
  have twice : s.fixSnapshots.fixSnapshots = s.fixSnapshots :=
    congrArg (fun e => { s.fixSnapshots with events := e })
      (Events.fixSnapshots_of_made _ fun r hr => (quiet r hr).1)
  have settled := State.settle_of_quiet quiet
  unfold State.settle at settled ⊢
  rwa [twice] at settled

/-- A state after the first send of the report `r` (R180). -/
def sentFirst (r : Report) (s : State) : State :=
  { s.enqueue s.agent.params.reportSide (r.sent s.agent.params 1) with
    events :=
      { s.events with
        reports := [{ r with sends := 1, retry := some (s.now + 250) }]
        counters := { s.events.counters with sends := bump s.events.counters.sends } } }

/-- The one report of a list is sent toward a side with room, and its retry deadline set (R180). -/
theorem sendReport_first {r : Report} (list : s.events.reports = [r]) (out : r.outstanding = true)
    (fresh : r.sends = 0) (room : s.Room s.agent.params.reportSide) : s.sendReport r = sentFirst r s := by
  have frame : r.frame s.agent.params = r.sent s.agent.params 1 := by
    unfold Report.frame Report.sent
    rw [fresh]
  have deadline : Report.sentAt s.now r = { r with sends := 1, retry := some (s.now + 250) } := by
    unfold Report.sentAt
    rw [if_pos out, fresh]
    rfl
  have reports : (s.enqueue s.agent.params.reportSide (r.sent s.agent.params 1)).events.reports = [r] := list
  unfold State.sendReport
  rw [frame, State.admit_room room (.inr rfl)]
  dsimp only
  rw [reports, List.map_singleton, deadline]
  rfl

/-- The first send of a report is made once the snapshots are fixed, and it makes no other. -/
theorem settle_first {r : Report} (list : s.fixSnapshots.events.reports = [r]) (out : r.outstanding = true)
    (fixed : r.making = false) (due : r.retry = none) (fresh : r.sends = 0)
    (station : s.agent.params.reportStation ≠ 4095) (room : s.Room s.agent.params.reportSide) :
    s.settle = sentFirst r s.fixSnapshots := by
  have sent : s.fixSnapshots.sendDue = s.fixSnapshots.sendReport r := by
    unfold State.sendDue outstandingReport
    rw [list, List.find?_cons_of_pos (by exact out)]
    simp only [due, Option.isSome_none, Bool.false_eq_true, if_false]
    exact if_neg station
  have still : (sentFirst r s.fixSnapshots).events.fixSnapshots = (sentFirst r s.fixSnapshots).events :=
    Events.fixSnapshots_of_made _ fun z hz => by rw [List.mem_singleton.1 hz]; exact fixed
  unfold State.settle
  rw [sent, sendReport_first list out fresh room, State.fixSnapshots, still]

/-! ## A bad frame that raises PORT (R97) -/

variable {side : Side}

/-- A bad frame counted takes no room. -/
theorem badCounted_room {other : Side} (room : s.Room other) : (badCounted side s).Room other := by
  obtain ⟨takes, below, slot⟩ := room
  refine ⟨?_, below, slot⟩
  unfold badCounted
  rw [PerSide.get_modify_at]
  split <;> exact takes

/-- The report of a bad frame, its snapshot fixed. -/
def portReport (side : Side) (s : State) : Report :=
  { made .port s.agent.params.levels.port s.now s.events with
    snapshot := s.events.flags.port ||| (Flag.badFrame side).bit
    making := false }

/-- A bad frame counted, its flag set and its report listed. -/
def badReported (side : Side) (s : State) : State :=
  { badCounted side s with
    events :=
      { s.events.mark (.badFrame side) with
        reports := insertReport (portReport side s) s.events.reports
        nextSeq := s.events.nextSeq + 1
        counters := { s.events.counters with created := bump s.events.counters.created } } }

theorem fixSnapshots_receiveBad (quiet : s.Quiet) (before : s.events.raised .port = false)
    (enabled : (s.events.enables.port &&& (Flag.badFrame side).bit) ≠ 0)
    (station : s.agent.params.reportStation ≠ 4095) (few : s.events.reports.length < 8) :
    (s.receiveBad side).fixSnapshots = badReported side s := by
  have listed := setFlag_room (p := s.agent.params) (now := s.now) before
    (raised_mark (f := .badFrame side) enabled) station few
  have fixed := fixSnapshots_insert (congrArg Events.reports listed) rfl fun z hz => (quiet z hz).1
  rw [listed] at fixed
  rw [receiveBad_eq]
  refine congrArg (fun e => { badCounted side s with events := e }) ((congrArg _ listed).trans (fixed.trans ?_))
  rfl

/-- Settles O48: flags and lists by the laws of the event unit, the bad frame as its event settles. -/
theorem raisedGroupsMakeOneReport : Obligations.RaisedGroupsMakeOneReport := by
  unfold Obligations.RaisedGroupsMakeOneReport
  refine ⟨fun p now f ev => ⟨ev.has_mark f, setFlag_marks, fun before after station few => ?_,
    fun before after station full pre post y list waits lowest last => ?_⟩, ?_⟩
  · exact ⟨_, setFlag_room before after station few, rfl, rfl, rfl, rfl, rfl, rfl⟩
  · refine ⟨_, rfl, rfl, rfl, rfl, ?_, rfl, setFlag_full before after station full list waits lowest last⟩
    simp [made, list]
  · intro side bytes s takes bad quiet before enabled station few room
    have fixed := fixSnapshots_receiveBad quiet before enabled station few
    rw [exec_reception takes.1, receive_bad takes bad]
    refine congrArg Host.Outcome.next ?_
    cases list : s.events.reports with
    | nil =>
      have one : (s.receiveBad side).fixSnapshots.events.reports = [portReport side s] := by
        rw [fixed, badReported, list]
        rfl
      have roomy : (s.receiveBad side).Room s.agent.params.reportSide := by
        rw [receiveBad_eq]
        exact badCounted_room (side := side) (room list)
      rw [settle_first one (congrArg List.isEmpty list) rfl rfl rfl station roomy, fixed]
      simp only [sentFirst, portReport, made, badReported, list]
      rfl
    | cons z zs =>
      have still : (s.receiveBad side).fixSnapshots.Quiet := by
        intro w hw
        rw [fixed] at hw
        rcases List.mem_cons.1 ((insertReport_perm _ _).mem_iff.1 hw) with rfl | old
        · exact ⟨rfl, fun out => by simp [portReport, made, list] at out⟩
        · exact quiet w old
      rw [settle_fixed still, fixed]
      simp only [badReported, portReport, made, list]
      rfl

end Sys2Proof.Machine.ReportLaws
end

section
/-! Validation (R125, R126, Table 6-3) and the commands of the shadow bank: WRITE_ENTRY, WRITE_MASKS_DEFAULTS,
COPY_ACTIVE and COMMIT (R120 to R122, R124 to R127). -/

namespace Sys2Proof.Machine.BankLaws

open DeliveryLaws ReadLaws RefusalLaws

/-! ## The checks of an entry (R126, Table 6-3) -/

/-- The reasons in the order in which an entry is checked. -/
def reasons : List Invalid :=
  [.noSides, .noKinds, .filterWithoutData, .filterWithDrop, .zeroWindow, .zeroFreshness, .tripUndefined,
    .rewriteWithoutTagChange]

theorem mem_reasons (why : Invalid) : why ∈ reasons := by cases why <;> decide

/-- The checks are made in the order of their reason codes. -/
theorem reasons_rise : reasons.Pairwise fun v w => v.code < w.code := by decide

/-- An entry fails the check of a reason, each check by itself. -/
def failsCheck (e : Entry) (c : TripConfig) : Invalid → Bool
  | .noSides => !e.onA && !e.onB
  | .noKinds => !e.data && !e.query
  | .filterWithoutData => e.filter != .none && !e.data
  | .filterWithDrop => e.filter != .none && e.action == .drop
  | .zeroWindow => e.filter == .repeated && e.window == 0
  | .zeroFreshness => e.action == .proxy && e.freshness == 0
  | .tripUndefined => e.namesUndefined c
  | .rewriteWithoutTagChange => e.action == .rewrite && !e.keepItem && e.rewriteTag == e.tag

/-- A search of a list, its head first. -/
theorem find?_cons_ite {α : Type} (p : α → Bool) (a : α) (l : List α) :
    (a :: l).find? p = if p a then some a else l.find? p := by
  cases h : p a <;> simp [h]

/-- Validation answers the first reason whose check fails. -/
theorem fault_eq_find? (e : Entry) (c : TripConfig) : e.fault c = reasons.find? (failsCheck e c) := by
  simp only [reasons, find?_cons_ite, List.find?_nil, failsCheck, Entry.fault, Bool.and_eq_true, bne_iff_ne,
    beq_iff_eq, ne_eq, and_assoc]

/-- The reasons listed before one are those of a lower code. -/
theorem mem_before_iff {pre post : List Invalid} {why : Invalid} (split : reasons = pre ++ why :: post) (w : Invalid) :
    w ∈ pre ↔ w.code < why.code := by
  have rise := reasons_rise
  rw [split] at rise
  obtain ⟨-, after, before⟩ := List.pairwise_append.1 rise
  refine ⟨fun mem => before w mem why List.mem_cons_self, fun lower => ?_⟩
  have listed := mem_reasons w
  rw [split, List.mem_append, List.mem_cons] at listed
  rcases listed with mem | rfl | mem
  · exact mem
  · exact absurd lower (BitVec.lt_irrefl _)
  · exact absurd (BitVec.lt_trans lower ((List.pairwise_cons.1 after).1 w mem)) (BitVec.lt_irrefl _)

/-- The first reason that meets a test is the one that meets it with none of a lower code. -/
theorem find?_reasons {p : Invalid → Bool} {why : Invalid} :
    reasons.find? p = some why ↔ p why = true ∧ ∀ w : Invalid, w.code < why.code → ¬p w = true := by
  rw [List.find?_eq_some_iff_append]
  refine and_congr_right fun _ => ⟨?_, fun lower => ?_⟩
  · rintro ⟨pre, post, split, before⟩ w lower
    simpa using before w ((mem_before_iff split w).2 lower)
  · obtain ⟨pre, post, split⟩ := List.append_of_mem (mem_reasons why)
    exact ⟨pre, post, split, fun w mem => by simpa using lower w ((mem_before_iff split w).1 mem)⟩

/-- An entry names an undefined source just when its trip source has no definition (R126). -/
theorem namesUndefined_iff {e : Entry} {c : TripConfig} :
    e.namesUndefined c = true ↔ ∃ k, e.trip = some k ∧ c.sources[k] = none := by
  unfold Entry.namesUndefined
  cases e.trip <;> simp

/-- Settles O32: validation answers the first of the failed checks, and the checks stand in the order of their codes. -/
theorem validationChecksInOrder : Obligations.ValidationChecksInOrder := by
  unfold Obligations.ValidationChecksInOrder
  intro e c fails
  have check : ∀ why, failsCheck e c why = true ↔ fails why := by
    intro why
    cases why <;> simp [failsCheck, fails, namesUndefined_iff, and_assoc]
  rw [fault_eq_find?]
  simp only [← check]
  exact ⟨fun why => find?_reasons, by simp [List.find?_eq_none, mem_reasons]⟩

/-! ## Validation of a bank (R125) -/

variable {b : Bank} {c : TripConfig}

/-- A bank passes when no entry in use fails. -/
theorem invalid_none (pass : ∀ i : Fin 64, (b.entries[i]).inUse = true → (b.entries[i]).fault c = none) :
    b.invalid c = none := by
  refine List.findSome?_eq_none_iff.2 fun i _ => Option.map_eq_none_iff.2 ?_
  unfold Entry.invalid
  split
  · next inUse => exact pass i inUse
  · rfl

/-- The entry that a failing bank is refused for is the lowest that fails. -/
theorem invalid_lowest {i : Fin 64} {why : Invalid} (inUse : (b.entries[i]).inUse = true)
    (fails : (b.entries[i]).fault c = some why)
    (below : ∀ j < i, (b.entries[j]).inUse = true → (b.entries[j]).fault c = none) :
    b.invalid c = some (i, why) := by
  refine findSome?_lowest (k := i) ?_ fun j lt => Option.map_eq_none_iff.2 ?_
  · rw [Entry.invalid, if_pos inUse, fails]
    rfl
  · unfold Entry.invalid
    split
    · next used => exact below j lt used
    · rfl

/-! ## The rules of the commands -/

variable {u : State} {body args : Payload}

/-- In shadow state CLEAN a rule is taken (Table 6-2). -/
theorem inClean_clean {run : State → State × Reply} (clean : u.banks.shadowState = .clean) :
    inClean run u = run u := by
  simp only [inClean, clean, ShadowState.refusesEdit]

theorem entry_length {e : Entry} (read : Entry.ofBytes body = some e) : body.length = 12 := by
  unfold Entry.ofBytes at read
  split at read
  · rfl
  · cases read

theorem header_length {h : BankHeader} (read : BankHeader.ofBytes args = some h) : args.length = 15 := by
  unfold BankHeader.ofBytes at read
  split at read
  · rfl
  · cases read

theorem writeEntry_run {i : Fin 64} {e : Entry} (clean : u.banks.shadowState = .clean)
    (read : Entry.ofBytes body = some e) :
    (writeEntryCommand (countByte i.val :: body)).run u = (u.writeShadow (.entry i e), okReply [countByte i.val]) := by
  have twelve : ¬body.length ≠ 12 := not_not.2 (entry_length read)
  simp only [writeEntryCommand, ownerCommand, if_neg twelve, inClean_clean clean, entryIndex_countByte, read]

theorem writeMasksDefaults_run {h : BankHeader} (clean : u.banks.shadowState = .clean)
    (read : BankHeader.ofBytes args = some h) :
    (writeMasksDefaultsCommand args).run u = (u.writeShadow (.header h), okReply []) := by
  have fifteen : ¬args.length ≠ 15 := not_not.2 (header_length read)
  simp only [writeMasksDefaultsCommand, ownerCommand, if_neg fifteen, inClean_clean clean, read]

theorem copyActive_run (idle : u.banks.shadowState.isLoading = false) :
    (copyActiveCommand []).run u =
      ({ u with banks := { u.banks with shadow := u.banks.active, shadowState := .clean } }, okReply []) := by
  simp only [copyActiveCommand, ownerCommand, noArguments, if_true, runCopyActive]
  cases is : u.banks.shadowState with
  | loading tr => rw [is] at idle; cases idle
  | clean | incomplete => rfl

theorem commit_run (clean : u.banks.shadowState = .clean) : (commitCommand []).run u = runCommit u :=
  inClean_clean clean

/-- COMMIT of a shadow bank that passes (R127). -/
theorem commit_swaps (clean : u.banks.shadowState = .clean) (pass : u.banks.shadow.invalid u.trip.config = none) :
    (commitCommand []).run u = (u.swapBanks, okReply [countByte u.banks.shadow.inUse]) := by
  rw [commit_run clean, runCommit, pass]

/-- COMMIT of a shadow bank that fails (R125). -/
theorem commit_fails {i : Fin 64} {why : Invalid} (clean : u.banks.shadowState = .clean)
    (fail : u.banks.shadow.invalid u.trip.config = some (i, why)) :
    (commitCommand []).run u =
      ((u.countBank fun n => { n with commitRefused := bump n.commitRefused }).setFlag .commitRefused,
        ⟨.invalidTable, [countByte i.val, why.code]⟩) := by
  rw [commit_run clean, runCommit, fail]

/-! ## The event of a command that changes the banks -/

variable {s : State} {m : Arrival} {seq : Byte} {x : Session} {rule : Command} {banks : Banks} {reply : Reply}

/-- The banks replaced, and a flag set or none. -/
def withBanks (banks : Banks) (flag : Option Flag) (s : State) : State :=
  { s with banks := banks, events := flag.elim s.events (s.events.setFlag s.agent.params s.now) }

theorem withBanks_has (banks : Banks) (f : Flag) (s : State) :
    (withBanks banks (some f) s).events.has f = true :=
  State.has_setFlag s f

/-- Where no report can be made, the flag is set and nothing else happens (R175). -/
theorem withBanks_unreported {flag : Option Flag} (h : s.Unreported) :
    (withBanks banks flag s).events = flag.toList.foldl Events.mark s.events ∧ (withBanks banks flag s).Quiet := by
  cases flag with
  | none => exact ⟨rfl, h.1⟩
  | some f =>
    have marked : (withBanks banks (some f) s).events = s.events.mark f := Events.setFlag_unreported _ _ _ _ h.2
    exact ⟨marked, (State.quiet_congr (by rw [marked, Events.mark_reports])).2 h.1⟩

/-- The owner's new command whose rule replaces the banks, their classifier counters kept, and sets a flag at most. -/
theorem addressed_banks {flag : Option Flag} (h : s.HearsOwner m seq x) (fit : argsFit args = true)
    (run : rule.run (s.delivered m) = (withBanks banks flag (s.delivered m), reply))
    (counts : banks.classifier = (s.delivered m).banks.classifier) :
    ∃ t, addressed m seq args rule s = .next t ∧ (∀ f ∈ flag, t.events.has f = true) ∧
      s.AnswersOnly t m ⟨seq, rule.code, reply.status, reply.args⟩ flag.toList ∧
      t.steady =
        { s.steady with
          active := banks.active
          shadow := banks.shadow
          shadowState := banks.shadowState
          hits := banks.hits
          bankCounts := banks.counters
          session := some (x.answered s.now m.side ⟨seq, rule.code, reply.status, reply.args⟩) } := by
  set u := withBanks banks flag (s.delivered m)
  obtain ⟨t, next, steady, flags⟩ := addressed_owner_steady (u := u) h fit run h.2.1 h.2.2.1
  refine ⟨t, next, ?_, fun unreported room => ?_, ?_⟩
  · rintro f rfl
    exact flags f (withBanks_has banks f _)
  · obtain ⟨marked, quiet⟩ := withBanks_unreported (banks := banks) (flag := flag) (s := s.delivered m) unreported
    have only := addressed_room h.1 (HearsOwner.lets h).1 (fun _ => (HearsOwner.lets h).2) fit run quiet
      (delivered_room (m := m) room)
    rw [Host.Outcome.next.inj (next.symm.trans only), State.answeredBy,
      keepResponse_owner (s := u) _ h.2.1 h.2.2.1, State.Leaves]
    simp only [State.rest, Rest.mk.injEq]
    exact ⟨rfl, marked, counts, rfl, rfl, rfl, rfl⟩
  · rw [steady, ← State.steady_delivered s m]
    rfl

/-- Settles O30: each of the three rules replaces the banks and no more. -/
theorem shadowEdits : Obligations.ShadowEdits := by
  unfold Obligations.ShadowEdits
  refine fun m seq x s h => ⟨fun i e body clean read => ?_, fun hd args clean read => ?_, fun idle => ?_⟩
  · have fit : argsFit (countByte i.val :: body) = true :=
      argsFit_of (n := 13) (by rw [List.length_cons, entry_length read]) (by decide)
    obtain ⟨t, next, -, only, steady⟩ :=
      addressed_banks (flag := none) h fit (writeEntry_run (u := s.delivered m) clean read) rfl
    exact ⟨t, next, only, steady⟩
  · have fit : argsFit args = true := argsFit_of (header_length read) (by decide)
    obtain ⟨t, next, -, only, steady⟩ :=
      addressed_banks (flag := none) h fit (writeMasksDefaults_run (u := s.delivered m) (h := hd) clean read) rfl
    exact ⟨t, next, only, steady⟩
  · obtain ⟨t, next, -, only, steady⟩ :=
      addressed_banks (flag := none) (args := []) h rfl (copyActive_run (u := s.delivered m) idle) rfl
    exact ⟨t, next, only, steady⟩

/-- Settles O31: what validation finds decides between the swap and the refusal. -/
theorem commitSwapsOrRefuses : Obligations.CommitSwapsOrRefuses := by
  unfold Obligations.CommitSwapsOrRefuses
  refine fun m seq x s h clean => ⟨fun pass => ?_, fun i why inUse fails below => ?_⟩
  · have run := commit_swaps (u := s.delivered m) clean (invalid_none pass)
    obtain ⟨t, next, flag, only, steady⟩ := addressed_banks (flag := some .commitDone) (args := []) h rfl run rfl
    refine ⟨t, next, flag _ rfl, only, ?_⟩
    rw [steady, ← clean]
    rfl
  · have run := commit_fails (u := s.delivered m) clean (invalid_lowest inUse fails below)
    obtain ⟨t, next, flag, only, steady⟩ := addressed_banks (flag := some .commitRefused) (args := []) h rfl run rfl
    exact ⟨t, next, flag _ rfl, only, steady⟩

end Sys2Proof.Machine.BankLaws
end

section
/-! The trip unit (spec/07): an assertion, the window deadline, SET_TRIP and RELEASE_TRIP keep it coherent (R134 to
R141). -/

namespace Sys2Proof.Machine.TripLaws

/-! ## The unit at rest, collecting and tripped -/

/-- Outside COLLECTING and TRIPPED nothing is asserted and no window runs (R134). -/
theorem coherent_resting {t : Trip} (state : t.state = t.config.restState) (isol : t.isol = false)
    (deadline : t.deadline = none) (asserted : t.asserted = 0) : t.Coherent := by
  by_cases idle : t.config.required = 0
  · have disarmed : t.state = .disarmed := by rw [state, TripConfig.restState, if_pos idle]
    simp [Trip.Coherent, Trip.SetOk, disarmed, isol, deadline, asserted, idle]
  · have watching : t.state = .watching := by rw [state, TripConfig.restState, if_neg idle]
    simpa [Trip.Coherent, Trip.SetOk, watching, isol, deadline, asserted] using idle

/-- While COLLECTING some required sources are asserted, not all, and the window runs (R135). -/
theorem coherent_collecting {t : Trip} (state : t.state = .collecting) (isol : t.isol = false)
    (window : t.deadline.isSome = true) (armed : t.config.required ≠ 0)
    (set : t.asserted ≠ 0 ∧ t.asserted &&& t.config.required = t.asserted ∧ t.asserted ≠ t.config.required) :
    t.Coherent := by
  unfold Trip.Coherent Trip.SetOk
  rw [state, isol]
  exact ⟨iff_of_false nofun nofun, iff_of_true window rfl, iff_of_false nofun armed, set⟩

theorem coherent_started (c : TripConfig) : (Trip.started c).Coherent := coherent_resting rfl rfl rfl rfl

/-- A required source is one of the sources required. -/
theorem sourceBit_and_required : ∀ (required : BitVec 4) (k : Fin 4), required.getLsbD k = true →
    sourceBit k &&& required = sourceBit k := by decide

theorem sourceBit_ne_zero (k : Fin 4) : sourceBit k ≠ 0 := by revert k; decide

/-- A required source added to a set of required sources: a set of required sources, and not the empty one. -/
theorem asserted_with_source {required set : BitVec 4} {k : Fin 4} (needs : required.getLsbD k = true)
    (within : set &&& required = set) :
    (set ||| sourceBit k) &&& required = set ||| sourceBit k ∧ set ||| sourceBit k ≠ 0 := by
  refine ⟨?_, fun empty => sourceBit_ne_zero k (BitVec.or_eq_zero_iff.1 empty).2⟩
  rw [BitVec.and_comm, BitVec.and_or_distrib_left, BitVec.and_comm, within, BitVec.and_comm,
    sourceBit_and_required required k needs]

theorem required_ne_zero {required : BitVec 4} {k : Fin 4} (needs : required.getLsbD k = true) : required ≠ 0 := by
  rintro rfl
  simp at needs

variable {s : State}

/-! ## Assertions (R135, R137) -/

theorem clearQueries_trip (s : State) : s.clearQueries.trip = s.trip := by
  obtain ⟨-, -, -, -, trip, -⟩ := s.clearQueries_keeps
  exact trip

/-- Entry into TRIPPED (R137): the purge of the queues and of the outstanding list is no matter of the unit. -/
theorem enterTripped_trip (k : Fin 4) (side : Side) (tag : Tag) :
    (s.enterTripped k side tag).trip =
      { s.trip with
        state := .tripped
        asserted := s.trip.config.required
        deadline := none
        last := some ⟨s.now, k, side, tag⟩
        isol := true
        counters := { s.trip.counters with trips := bump s.trip.counters.trips } } := by
  unfold State.enterTripped
  exact clearQueries_trip _

/-- A required source added to a collection completes the required set, which trips, or leaves it collecting (R135,
R137). -/
theorem collect_coherent {k : Fin 4} (side : Side) (tag : Tag) (needs : s.trip.config.required.getLsbD k = true)
    (state : s.trip.state = .collecting) (isol : s.trip.isol = false) (window : s.trip.deadline.isSome = true)
    (within : s.trip.asserted &&& s.trip.config.required = s.trip.asserted) :
    (s.collect k side tag).1.trip.Coherent := by
  have armed := required_ne_zero needs
  obtain ⟨subset, filled⟩ := asserted_with_source needs within
  dsimp only [State.collect]
  split
  · rw [enterTripped_trip]
    exact ⟨iff_of_true rfl rfl, iff_of_false nofun nofun, iff_of_false nofun armed, rfl, rfl⟩
  · next incomplete => exact coherent_collecting state isol window armed ⟨filled, subset, incomplete⟩

/-- An assertion counted keeps the unit coherent in whatever state it is (R135). -/
theorem assertSource_coherent (h : s.trip.Coherent) (k : Fin 4) (side : Side) (tag : Tag) :
    (s.assertSource k side tag).1.trip.Coherent := by
  have ⟨isol, window, _, set⟩ := h
  dsimp only [State.assertSource]
  split
  · exact h
  · next needs =>
    have needed : s.trip.config.required.getLsbD k = true := by simpa using needs
    split
    · next watching =>
      refine collect_coherent (s := (s.countTrip _).beginCollection) side tag needed rfl ?_ rfl BitVec.zero_and
      change s.trip.isol = false
      simpa [watching] using isol
    · next collecting =>
      split
      · exact h
      · simp only [Trip.SetOk, collecting] at set
        refine collect_coherent (s := s.countTrip _) side tag needed collecting ?_ (window.2 collecting) set.2.1
        simpa [collecting] using isol
    · exact h
    · exact h

/-! ## The window, SET_TRIP and RELEASE_TRIP (R136, R139, R141) -/

/-- An operation that keeps the trip unit coherent. -/
def Keeps (f : State → State) : Prop := ∀ s : State, s.trip.Coherent → (f s).trip.Coherent

/-- What leaves the unit as it is keeps it coherent. -/
theorem coherent_of_same {t : State} (same : t.trip = s.trip) (h : s.trip.Coherent) : t.trip.Coherent := by
  rw [same]; exact h

theorem keeps_of_same {f : State → State} (same : ∀ s : State, (f s).trip = s.trip) : Keeps f :=
  fun s => coherent_of_same (same s)

/-- The window deadline ends a collection and leaves the unit WATCHING (R136). -/
theorem lapseWindow_keeps : Keeps State.lapseWindow := by
  intro s h
  unfold State.lapseWindow
  split
  · next lapsed =>
    obtain ⟨isol, -, disarmed, -⟩ := h
    rw [lapsed.1] at isol disarmed
    exact coherent_resting (if_neg fun idle => nomatch disarmed.2 idle).symm (by simpa using isol) rfl rfl
  · exact h

/-- A configuration taken outside TRIPPED (R141). -/
theorem configure_coherent {t : Trip} (h : t.Coherent) (free : t.state ≠ .tripped) (c : TripConfig) :
    (t.configure c).Coherent := by
  obtain ⟨isol, -⟩ := h
  exact coherent_resting rfl (Bool.eq_false_iff.2 fun high => free (isol.1 high)) rfl rfl

/-- The release from TRIPPED (R139). -/
theorem releaseTrip_coherent (h : s.trip.Coherent) (tripped : s.trip.state = .tripped) :
    s.releaseTrip.trip.Coherent := by
  obtain ⟨-, window, -⟩ := h
  have stopped : s.trip.deadline = none := by simpa [tripped] using window
  exact coherent_resting rfl rfl stopped rfl

end Sys2Proof.Machine.TripLaws
end

section
/-! What the blocks do to the trip unit: admission, the proxy, the tag memory and the end of an event leave it as it is,
and the classifier, the port and the agent keep it coherent. -/

namespace Sys2Proof.Machine.TripLaws

variable {s : State}

/-! ## What leaves the unit as it is -/

/-- The queues and the event unit are no matter of the trip unit. -/
theorem trip_of_grows {t : State} (g : s.Grows t) : t.trip = s.trip := congrArg Steady.trip g.steady

@[simp] theorem settle_trip (s : State) : s.settle.trip = s.trip := trip_of_grows s.grows_settle

@[simp] theorem admit_trip (s : State) (side : Side) (f : Frame) : (s.admitFrame side f).1.trip = s.trip :=
  trip_of_grows (s.grows_admit side f)

@[simp] theorem forward_trip (s : State) (side : Side) (f : Frame) : (s.forward side f).1.trip = s.trip := by
  unfold State.forward
  split
  · rfl
  · exact admit_trip (s.countClassifier side _) side.far _

@[simp] theorem defaultAction_trip (s : State) (side : Side) (f : Frame) : (s.defaultAction side f).trip = s.trip := by
  unfold State.defaultAction
  dsimp only
  split
  · exact forward_trip (s.countClassifier side _) side f
  · rfl

@[simp] theorem settleReply_trip (s : State) (side : Side) (tag : Tag) : (s.settleReply side tag).trip = s.trip := by
  unfold State.settleReply
  split <;> rfl

@[simp] theorem tagStep_trip (s : State) (side : Side) (tag : Tag) (settled : Bool) (p : Payload) (e : Entry) :
    (s.tagStep side tag settled p e).1.trip = s.trip := by
  dsimp only [State.tagStep]
  repeat' split
  all_goals rfl

@[simp] theorem dataOnward_trip (s : State) (side : Side) (tag : Tag) (settled : Bool) (f : Frame) (e : Entry) :
    (s.dataOnward side tag settled f e).trip = s.trip := by
  have stepped := tagStep_trip s side tag settled f.payload e
  unfold State.dataOnward
  split
  · split <;> next eq => rw [eq] at stepped; simpa using stepped
  · exact forward_trip s side _

/-- The proxy step (R54): an answer, an entry coalesced or made, or nothing. -/
@[simp] theorem proxyStep_trip (s : State) (side : Side) (tag : Tag) (hop : Hop) (cls : FClass) :
    (s.proxyStep side tag hop cls).1.trip = s.trip := by
  have asked : ∀ (u : State) found, (u.askAcross side tag hop cls found).1.trip = u.trip := by
    intro u found
    dsimp only [State.askAcross]
    repeat' split
    all_goals rfl
  have answered : ∀ (u : State) value, (u.answerQuery side tag value cls).trip = u.trip := fun u value =>
    admit_trip u side (answerFrame u.agent.params tag value cls)
  dsimp only [State.proxyStep]
  split
  · exact answered { s with tags := _ } _
  · exact asked { s with tags := _ } _

@[simp] theorem forwardTracked_trip (s : State) (side : Side) (tag : Tag) (f : Frame) :
    (s.forwardTracked side tag f).trip = s.trip := by
  have sent := forward_trip s side f
  have withdrawn : ∀ u : State, (u.withdrawQuery side tag).trip = u.trip := by
    intro u
    unfold State.withdrawQuery
    split <;> rfl
  unfold State.forwardTracked
  split
  · next eq => rw [eq] at sent; exact (withdrawn _).trans sent
  · next eq => rw [eq] at sent; exact sent

@[simp] theorem queryUnder_trip (s : State) (side : Side) (tag : Tag) (f : Frame) (e : Entry) :
    (s.queryUnder side tag f e).trip = s.trip := by
  have asked := proxyStep_trip s side tag f.hop (e.classOf f.cls)
  unfold State.queryUnder
  split
  · rfl
  · exact forward_trip s side _
  · exact forward_trip s side _
  · split <;> next eq => rw [eq] at asked; simpa using asked

/-- A QUERY frame (R15, R19, R21, R23). -/
@[simp] theorem classifyQuery_trip (s : State) (side : Side) (reply : Bool) (tag : Tag) (f : Frame) :
    (s.classifyQuery side reply tag f).trip = s.trip := by
  unfold State.classifyQuery State.matchQuery
  dsimp only
  repeat' split
  · rfl
  · rfl
  · exact queryUnder_trip (State.hit _ (s.countClassifier side _)) side tag f _
  · exact defaultAction_trip (s.countClassifier side _) side f

@[simp] theorem forwardMgmt_trip (s : State) (side : Side) (f : Frame) : (s.forwardMgmt side f).trip = s.trip := by
  unfold State.forwardMgmt
  split
  · rfl
  · exact forward_trip s side f

@[simp] theorem respond_trip (s : State) (m : Arrival) (r : Response) : (s.respond m r).trip = s.trip :=
  congrArg Steady.trip (s.steady_respond m r)

@[simp] theorem finish_trip (s : State) (first : Bool) (m : Arrival) (r : Response) :
    (s.finish first m r).trip = s.trip := by
  refine (congrArg Steady.trip (finish_steady first r)).trans ?_
  change (s.keepResponse m r).trip = s.trip
  unfold State.keepResponse
  repeat' split
  all_goals rfl

@[simp] theorem abortTransfer_trip (s : State) : s.abortTransfer.trip = s.trip :=
  congrArg Steady.trip s.steady_abortTransfer

@[simp] theorem takeAck_trip (s : State) (src : Station) (seq : Byte) : (s.takeAck src seq).trip = s.trip := by
  unfold State.takeAck
  split <;> rfl

/-! ## The classifier and the port -/

/-- A DATA frame reaches the unit through the offer of its winning entry's source alone (R20). -/
theorem classifyData_keeps (side : Side) (reply : Bool) (tag : Tag) (f : Frame) :
    Keeps (State.classifyData side reply tag f) := by
  have offered : ∀ (u : State) (e : Entry), u.trip.Coherent → (u.tripStep side tag f e).1.trip.Coherent := by
    intro u e hu
    unfold State.tripStep State.offerTrip
    repeat' split
    · exact assertSource_coherent hu _ side tag
    · exact hu
    · exact hu
  have under : ∀ settled e, Keeps (State.dataUnder side tag settled f e) := by
    intro settled e u hu
    have asserted := offered u e hu
    unfold State.dataUnder
    split
    · next eq => rw [eq] at asserted; exact asserted
    · next eq =>
      rw [eq] at asserted
      split
      · exact asserted
      · exact coherent_of_same (dataOnward_trip _ side tag settled f e) asserted
  have matched : ∀ settled, Keeps (State.matchData side tag settled f) := by
    intro settled u hu
    unfold State.matchData
    split
    · exact under settled _ (u.hit _) hu
    · exact coherent_of_same (defaultAction_trip u side f) hu
  intro s h
  unfold State.classifyData
  dsimp only
  repeat' split
  · exact h
  · exact matched _ _ (coherent_of_same (settleReply_trip (s.countClassifier side _) side tag) h)
  · exact matched _ (s.countClassifier side _) h

/-- A MGMT frame, for an agent that keeps the unit coherent (R27 to R30). -/
theorem classifyMgmt_keeps {agent : State → State} (ha : Keeps agent) (side : Side) (f : Frame) (dst src : Station) :
    Keeps (State.classifyMgmt side f dst src agent) := by
  intro s h
  have handed := ha (s.countClassifier side fun c => { c with mgmtTaken := bump c.mgmtTaken }) h
  unfold State.classifyMgmt
  dsimp only
  repeat' split
  · exact h
  · exact handed
  · exact coherent_of_same (forwardMgmt_trip _ side f) handed
  · exact coherent_of_same (forwardMgmt_trip (s.countClassifier side _) side f) h

theorem endOfFrame_keeps {take : State → State} (ht : Keeps take) (side : Side) :
    Keeps (State.endOfFrame side take) := by
  intro s h
  rcases s.endOfFrame_cases side take with ⟨-, e⟩ | ⟨-, -, e⟩ | ⟨-, -, e⟩ <;> rw [e]
  · exact h
  · exact h
  · exact ht s h

theorem event_keeps {f : State → State} (hf : Keeps f) : Keeps (State.event f) := by
  intro s h
  unfold State.event
  split
  · exact coherent_of_same (settle_trip _) (hf s h)
  · exact h

theorem arrival_coherent {t : State} {fits toAll : Bool} {m : Arrival} {payload : Payload} {agent : State → State}
    (ha : Keeps agent) (h : s.trip.Coherent) (e : arrival fits m toAll payload agent s = .next t) :
    t.trip.Coherent := by
  have arrives : Keeps (State.arrive m toAll payload agent) := fun u hu =>
    endOfFrame_keeps (fun v hv => classifyMgmt_keeps ha m.side _ _ m.source
      ((v.acknowledge m.side true).countPort m.side _) hv) m.side u hu
  unfold arrival at e
  split at e <;> cases e
  exact event_keeps arrives s h

/-! ## The agent -/

/-- A command's rule that leaves the unit as it is. -/
def Spares (run : State → State × Reply) : Prop := ∀ s : State, (run s).1.trip = s.trip

/-- A command whose rule keeps the unit coherent, and whose refusal leaves it as it is. -/
structure Kept (c : Command) : Prop where
  run    : Keeps fun s => (c.run s).1
  refuse : Spares c.refuse

/-- A COMMAND taken by the agent (R144). -/
theorem take_keeps {c : Command} (hc : Kept c) (m : Arrival) (seq : Byte) : Keeps (State.take m seq c) := by
  intro s h
  have decided : (s.countCommand.decideCommand m c).1.trip.Coherent := by
    unfold State.decideCommand
    split
    · exact coherent_of_same (s := s) (hc.refuse (s.countCommand.countAgent _)) h
    · exact hc.run s.countCommand h
  unfold State.take
  split
  · exact coherent_of_same (s := s) (respond_trip _ m _) h
  · split
    next eq => rw [eq] at decided; exact coherent_of_same (finish_trip _ _ m _) decided

end Sys2Proof.Machine.TripLaws
end

section
/-! Every command and every row of the table keeps the trip unit coherent: SET_TRIP, RELEASE_TRIP and a DATA frame by
their own rules, and nearly everything else by leaving the unit alone. -/

namespace Sys2Proof.Machine.TripLaws

variable {s : State}

/-! ## Commands that leave the unit as it is -/

variable {run : State → State × Reply} {code : Byte}

theorem openCommand_kept (h : Spares run) : Kept (openCommand code run) := ⟨keeps_of_same h, fun _ => rfl⟩
theorem ownerCommand_kept (h : Spares run) : Kept (ownerCommand code run) := ⟨keeps_of_same h, fun _ => rfl⟩

theorem noArguments_spares (h : Spares run) (args : Payload) : Spares (noArguments args run) := by
  intro s
  unfold noArguments
  split
  · exact h s
  · rfl

theorem inClean_spares (h : Spares run) : Spares (inClean run) := by
  intro s
  unfold inClean
  split
  · rfl
  · exact h s

theorem identify_kept (args : Payload) : Kept (identifyCommand args) :=
  openCommand_kept (noArguments_spares (fun _ => rfl) args)

theorem openSession_kept (m : Arrival) (seq : Byte) (args : Payload) : Kept (openSessionCommand m seq args) := by
  refine openCommand_kept fun s => ?_
  unfold runOpen
  repeat' split
  all_goals rfl

theorem close_kept (args : Payload) : Kept (closeCommand args) :=
  ownerCommand_kept (noArguments_spares (run := runClose) (fun s => abortTransfer_trip s) args)

theorem status_kept (m : Arrival) (args : Payload) : Kept (statusCommand m args) := by
  refine openCommand_kept fun s => ?_
  repeat' split
  all_goals rfl

theorem readCounters_kept (args : Payload) : Kept (readCountersCommand args) := by
  refine openCommand_kept fun s => ?_
  repeat' split
  all_goals rfl

theorem readEntry_kept (args : Payload) : Kept (readEntryCommand args) := by
  refine openCommand_kept fun s => ?_
  repeat' split
  all_goals rfl

theorem writeEntry_kept (args : Payload) : Kept (writeEntryCommand args) := by
  refine ownerCommand_kept fun s => ?_
  split
  · split
    · rfl
    · exact inClean_spares (fun u => by split <;> rfl) s
  · rfl

theorem writeMasksDefaults_kept (args : Payload) : Kept (writeMasksDefaultsCommand args) := by
  refine ownerCommand_kept fun s => ?_
  split
  · rfl
  · exact inClean_spares (fun u => by split <;> rfl) s

theorem copyActive_kept (args : Payload) : Kept (copyActiveCommand args) := by
  refine ownerCommand_kept (noArguments_spares (fun s => ?_) args)
  unfold runCopyActive
  split <;> rfl

theorem commit_kept (args : Payload) : Kept (commitCommand args) := by
  refine ownerCommand_kept (noArguments_spares (inClean_spares fun s => ?_) args)
  unfold runCommit
  split <;> rfl

theorem loadBegin_kept (args : Payload) : Kept (loadBeginCommand args) := by
  refine ownerCommand_kept fun s => ?_
  unfold runLoadBegin
  repeat' split
  all_goals rfl

theorem refuseLoadPart_spares (status : Status) (args : Payload) : Spares (refuseLoadPart status args) := by
  intro s
  cases args <;> rfl

theorem loadPart_kept (args : Payload) : Kept (loadPartCommand args) where
  refuse := refuseLoadPart_spares _ args
  run := by
    refine keeps_of_same fun s => ?_
    unfold loadPartCommand runLoadPart
    dsimp only
    repeat' split
    · rfl
    · rfl
    · rfl
    · rfl
    · exact abortTransfer_trip s
    · rfl
    · rfl
    · exact refuseLoadPart_spares _ args s

theorem loadEnd_kept (args : Payload) : Kept (loadEndCommand args) := by
  refine ownerCommand_kept fun s => ?_
  unfold runLoadEnd
  repeat' split
  · rfl
  · rfl
  · exact abortTransfer_trip s
  · exact abortTransfer_trip s
  · rfl
  · rfl

theorem readRecord_kept (args : Payload) : Kept (readRecordCommand args) := by
  refine openCommand_kept fun s => ?_
  have readout : ∀ i page, (s.readout i page).1.trip = s.trip := by
    intro i page
    unfold State.readout
    split <;> rfl
  repeat' split
  · exact readout _ _
  · rfl
  · rfl
  · exact readout _ _
  all_goals rfl

theorem flush_kept (args : Payload) : Kept (flushCommand args) :=
  ownerCommand_kept (noArguments_spares (fun _ => rfl) args)

theorem readQueries_kept (args : Payload) : Kept (readQueriesCommand args) := by
  refine openCommand_kept fun s => ?_
  repeat' split
  all_goals rfl

theorem cancelTag_kept (args : Payload) : Kept (cancelTagCommand args) := by
  refine ownerCommand_kept fun s => ?_
  repeat' split
  · exact trip_of_grows (s.grows_cancelTag _ _)
  · rfl
  · rfl

@[simp] theorem abortAttempt_trip (s : State) (side : Side) : (s.abortAttempt side).trip = s.trip := by
  rw [EgressLaws.abortAttempt_eq]; rfl

theorem sideControl_kept (args : Payload) : Kept (sideControlCommand args) := by
  refine ownerCommand_kept fun s => ?_
  have acted : ∀ {side action u}, s.sideAction side action = some u → u.trip = s.trip := by
    intro side action u e
    unfold State.sideAction at e
    split at e <;> cases e
    · rfl
    · exact abortAttempt_trip s side
    · rfl
    · rfl
  unfold runSideControl
  repeat' split
  · next e => exact acted e
  all_goals rfl

/-- A new age limit re-reads the queues (R84). -/
theorem setConfig_kept (args : Payload) : Kept (setConfigCommand args) := by
  refine ownerCommand_kept fun s => ?_
  have reread : ∀ (u : State) c, ((u.rereadAge .a c).rereadAge .b c).trip = u.trip := fun u c =>
    trip_of_grows ((u.grows_rereadAge .a c).trans (State.grows_rereadAge _ .b c))
  have configured : ∀ i v, (s.configure i v).trip = s.trip := by
    intro i v
    unfold State.configure
    dsimp only
    split
    · exact reread (s.withParams _) _
    · rfl
  repeat' split
  · rfl
  · rfl
  · rfl
  · exact configured _ _
  · rfl

theorem readConfig_kept (args : Payload) : Kept (readConfigCommand args) := by
  refine openCommand_kept fun s => ?_
  split
  · split
    · rfl
    · split <;> rfl
  · rfl

theorem readEvents_kept (args : Payload) : Kept (readEventsCommand args) := by
  refine openCommand_kept fun s => ?_
  repeat' split
  all_goals rfl

theorem clearEvents_kept (args : Payload) : Kept (clearEventsCommand args) := by
  refine ownerCommand_kept fun s => ?_
  split <;> rfl

theorem enableEvents_kept (args : Payload) : Kept (enableEventsCommand args) := by
  refine ownerCommand_kept fun s => ?_
  split
  · exact settle_trip { s with events := _ }
  · rfl

theorem store_kept (args : Payload) : Kept (storeCommand args) := by
  refine ownerCommand_kept (noArguments_spares (fun s => ?_) args)
  have read : ∀ (u : State) i, (u.slotReadout i).1.trip = u.trip := by
    intro u i
    unfold State.slotReadout
    split <;> rfl
  unfold runStore
  split
  · rfl
  · exact (read _ .one).trans (read s.beginStore .zero)

/-- RESTART leaves TRIPPED and the trip configuration as they are (Table 8-9). -/
theorem restart_kept (args : Payload) : Kept (restartCommand args) := by
  refine ⟨keeps_of_same (noArguments_spares (fun s => ?_) args), fun _ => rfl⟩
  have side : ∀ (u : State) side, (u.restartSide side).trip = u.trip := abortAttempt_trip
  unfold runRestart
  split
  · rfl
  · exact (abortTransfer_trip _).trans ((side (s.restartSide .a) .b).trans (side s .a))

theorem unknown_kept (code : Byte) : Kept (unknownCode code) := openCommand_kept fun _ => rfl

/-! ## Commands on the unit -/

/-- Cleared counters are no part of what the trip state goes with (R159). -/
theorem clearCounters_kept (args : Payload) : Kept (clearCountersCommand args) := by
  have cleared : ∀ n, Keeps (State.clearSet n) := by
    intro n s h
    unfold State.clearSet
    split
    all_goals exact h
  refine ⟨fun s h => ?_, fun _ => rfl⟩
  have all : s.clearAllSets.trip.Coherent := by
    unfold State.clearAllSets
    exact List.foldlRecOn (motive := fun u : State => u.trip.Coherent) _ _ h fun u hu n _ => cleared n u hu
  dsimp only [clearCountersCommand, ownerCommand]
  repeat' split
  · exact all
  · exact cleared _ s h
  · exact h
  · exact h

theorem setTrip_kept (args : Payload) : Kept (setTripCommand args) := by
  refine ⟨fun s h => ?_, fun _ => rfl⟩
  dsimp only [setTripCommand, ownerCommand, runSetTrip]
  split
  · exact h
  · split
    · exact h
    · next free =>
      repeat' split
      · exact h
      · exact h
      · exact configure_coherent h free _

theorem releaseTrip_kept (args : Payload) : Kept (releaseTripCommand args) := by
  refine ⟨fun s h => ?_, fun _ => rfl⟩
  dsimp only [releaseTripCommand, ownerCommand, noArguments, runReleaseTrip]
  repeat' split
  · next tripped => exact releaseTrip_coherent h tripped
  · exact h
  · exact h

/-- Every command keeps the unit coherent. -/
theorem commandFor_kept (m : Arrival) (seq code : Byte) (args : Payload) : Kept (commandFor m seq code args) := by
  unfold commandFor
  split
  · exact identify_kept args
  · exact openSession_kept m seq args
  · exact close_kept args
  · exact status_kept m args
  · exact readCounters_kept args
  · exact clearCounters_kept args
  · exact readEntry_kept args
  · exact writeEntry_kept args
  · exact writeMasksDefaults_kept args
  · exact copyActive_kept args
  · exact commit_kept args
  · exact loadBegin_kept args
  · exact loadPart_kept args
  · exact loadEnd_kept args
  · exact readRecord_kept args
  · exact flush_kept args
  · exact readQueries_kept args
  · exact cancelTag_kept args
  · exact sideControl_kept args
  · exact setConfig_kept args
  · exact readConfig_kept args
  · exact setTrip_kept args
  · exact releaseTrip_kept args
  · exact readEvents_kept args
  · exact clearEvents_kept args
  · exact enableEvents_kept args
  · exact store_kept args
  · exact restart_kept args
  · exact unknown_kept code

/-! ## Receptions and messages -/

/-- A broadcast IDENTIFY is a readout (R143). -/
theorem announced_trip (s : State) (m : Arrival) (seq : Byte) (args : Payload) :
    (s.takeBroadcast m seq (identifyCommand args)).trip = s.trip := by
  have read : ((identifyCommand args).run s.countCommand).1.trip = s.trip :=
    noArguments_spares (fun _ => rfl) args s.countCommand
  unfold State.takeBroadcast
  split
  next eq => rw [eq] at read; exact (respond_trip _ m _).trans ((settle_trip _).trans read)

/-- What the agent does with a message, whatever it is (R143). -/
theorem agentTakes_keeps (m : Arrival) (toAll : Bool) (payload : Payload) :
    Keeps (State.agentTakes m toAll payload) := by
  intro s h
  unfold State.agentTakes State.takeAnnouncement State.takeMessage
  split
  · repeat' split
    · exact h
    · exact coherent_of_same (announced_trip s m _ _) h
    · exact h
    · exact take_keeps (commandFor_kept m _ _ _) m _ s h
    · exact coherent_of_same (takeAck_trip s _ _) h
    · exact h
    · exact h
  · exact h

theorem receive_keeps (side : Side) (bytes : List Byte) : Keeps (State.receive side bytes) := by
  have classify : ∀ f, Keeps (State.classify side f) := by
    intro f s h
    unfold State.classify
    split
    · exact classifyData_keeps side _ _ f s h
    · exact coherent_of_same (classifyQuery_trip s side _ _ f) h
    · exact classifyMgmt_keeps (agentTakes_keeps _ _ _) side f _ _ s h
    · exact h
  refine endOfFrame_keeps (fun s h => ?_) side
  split
  · exact classify _ ((s.acknowledge side true).countPort side _) h
  · exact h

/-! ## Ports, deadlines, power and start-up -/

theorem endAttempt_trip (s : State) (side : Side) (o : LineOutcome) : (s.endAttempt side o).trip = s.trip := by
  have tested : ∀ u : State, (u.testSide side).trip = u.trip := by
    intro u
    unfold State.testSide
    dsimp only
    repeat' split
    all_goals rfl
  unfold State.endAttempt
  split
  · have settled : (s.settleFate side o).trip = s.trip := trip_of_grows (s.grows_settleFate side o)
    exact (tested _).trans settled
  · rfl

theorem select_trip (s : State) (side : Side) : (s.select side).trip = s.trip := by
  unfold State.select
  repeat' split
  all_goals rfl

theorem autoRecover_trip (s : State) (side : Side) : (s.autoRecover side).trip = s.trip := by
  unfold State.autoRecover
  dsimp only
  split <;> rfl

theorem ageOut_trip (s : State) (side : Side) (place : Nat) : (s.ageOut side place).trip = s.trip := by
  unfold State.ageOut
  repeat' split
  · exact trip_of_grows (s.grows_expire side place)
  · rfl
  · rfl

theorem timeoutQuery_trip (s : State) (place : Nat) : (s.timeoutQuery place).trip = s.trip := by
  unfold State.timeoutQuery
  repeat' split
  all_goals rfl

theorem expireLease_trip (s : State) : s.expireLease.trip = s.trip := by
  unfold State.expireLease
  repeat' split
  · exact abortTransfer_trip s
  · rfl
  · rfl

theorem expireTransfer_trip (s : State) : s.expireTransfer.trip = s.trip := by
  unfold State.expireTransfer
  repeat' split
  · exact abortTransfer_trip s
  all_goals rfl

theorem retryReport_trip (s : State) : s.retryReport.trip = s.trip := by
  unfold State.retryReport
  repeat' split
  all_goals rfl

theorem completeStore_trip (s : State) (verified : Bool) : (s.completeStore verified).trip = s.trip := by
  unfold State.completeStore State.endStore
  repeat' split
  all_goals rfl

theorem endStarting_trip (s : State) (busyA busyB : Bool) : (s.endStarting busyA busyB).trip = s.trip := by
  unfold State.endStarting
  split
  · refine (settle_trip _).trans ?_
    unfold State.setDue
    split <;> rfl
  all_goals rfl

/-! ## Every row -/

theorem exec_coherent {t : State} (h : s.trip.Coherent) {i : Instr} (e : exec i s = .next t) : t.trip.Coherent := by
  have same : ∀ f : State → State, (∀ u, (f u).trip = u.trip) → (s.event f).trip.Coherent := fun f spared =>
    event_keeps (keeps_of_same spared) s h
  cases c : i.command with
  | some x =>
    obtain ⟨m, seq, code⟩ := x
    rw [(CommandRows.command_row (CommandRows.wellFormed_of_next e) c).2] at e
    exact arrival_coherent (take_keeps (commandFor_kept m seq code i.args) m seq) h e
  | none =>
    cases i with
    | rstNLow => cases e; exact coherent_started _
    | powerLoss => cases e; exact coherent_started _
    | startUp strap failmodeHigh checks0 checks1 => cases e; exact coherent_started _
    | startingEnd busyA busyB => cases e; exact coherent_of_same (endStarting_trip s busyA busyB) h
    | reception side bytes => cases e; exact event_keeps (receive_keeps side bytes) s h
    | transmitterSelection side => cases e; exact same _ (select_trip · side)
    | lineWaitExpiry side =>
      cases e
      refine same _ fun u => ?_
      split
      · exact endAttempt_trip u side .lineError
      · rfl
    | attemptCompletion side outcome => cases e; exact same _ (endAttempt_trip · side outcome)
    | recoveryDeadline side => cases e; exact same _ (autoRecover_trip · side)
    | ageDeadline side place => cases e; exact same _ (ageOut_trip · side place)
    | freshnessDeadline record => cases e; exact same _ fun _ => rfl
    | queryEntryDeadline place => cases e; exact same _ (timeoutQuery_trip · place)
    | windowDeadline => cases e; exact event_keeps lapseWindow_keeps s h
    | leaseDeadline => cases e; exact same _ expireLease_trip
    | idleDeadline => cases e; exact same _ expireTransfer_trip
    | retryDeadline => cases e; exact same _ retryReport_trip
    | storeCompletion verified => cases e; exact same _ (completeStore_trip · verified)
    | ack m seq =>
      change arrival true m false (ackPayload seq) (State.takeAck m.source seq) s = .next t at e
      exact arrival_coherent (keeps_of_same (takeAck_trip · m.source seq)) h e
    | badMessage m toAll payload => exact arrival_coherent (agent := State.countBadMessage) (fun _ k => k) h e
    | ignoredMessage m toAll payload => exact arrival_coherent (agent := State.countIgnoredMessage) (fun _ k => k) h e
    | identify m toAll seq args =>
      cases toAll with
      | true => exact arrival_coherent (keeps_of_same (announced_trip · m seq args)) h e
      | false => cases c
    | _ => cases c

/-- Settles O55: a tick and the queue of commands are no matter of the unit, and every row keeps it coherent. -/
theorem tripUnitStaysCoherent : Obligations.TripUnitStaysCoherent := by
  unfold Obligations.TripUnitStaysCoherent
  intro s t h e
  unfold step at e
  split at e
  · cases e
    unfold State.tick
    split <;> exact h
  · next c rest _ => exact exec_coherent (s := { s with pending := rest }) h e

end Sys2Proof.Machine.TripLaws
end

section
/-! SET_TRIP and RELEASE_TRIP that are taken (R139 to R141): each replaces the trip unit and sets TRIP_RELEASED at
most. -/

namespace Sys2Proof.Machine.TripLaws

open DeliveryLaws BankLaws RefusalLaws

/-! ## The event of a command that changes the trip unit -/

variable {s u : State} {m : Arrival} {seq : Byte} {x : Session} {rule : Command} {trip : Trip} {reply : Reply}
  {args : Payload}

/-- The trip unit replaced, and a flag set or none. -/
def withTrip (trip : Trip) (flag : Option Flag) (s : State) : State :=
  { withBanks s.banks flag s with trip := trip }

/-- The owner's new command whose rule replaces the trip unit and sets a flag at most. -/
theorem addressed_trip {flag : Option Flag} (h : s.HearsOwner m seq x) (fit : argsFit args = true)
    (run : rule.run (s.delivered m) = (withTrip trip flag (s.delivered m), reply)) :
    ∃ t, addressed m seq args rule s = .next t ∧ (∀ f ∈ flag, t.events.has f = true) ∧
      s.AnswersOnly t m ⟨seq, rule.code, reply.status, reply.args⟩ flag.toList ∧
      t.steady =
        { s.steady with
          trip := trip
          session := some (x.answered s.now m.side ⟨seq, rule.code, reply.status, reply.args⟩) } := by
  have ⟨hears, session, own, _⟩ := h
  have ⟨new, owned⟩ := HearsOwner.lets h
  set u := withTrip trip flag (s.delivered m)
  obtain ⟨t, next, steady, flags⟩ := addressed_owner_steady (u := u) h fit run session own
  refine ⟨t, next, ?_, fun unreported room => ?_, ?_⟩
  · rintro f rfl
    exact flags f (withBanks_has s.banks f (s.delivered m))
  · obtain ⟨marked, quiet⟩ :=
      withBanks_unreported (banks := s.banks) (flag := flag) (s := s.delivered m) unreported
    have only := addressed_room (u := u) hears new (fun _ => owned) fit run quiet (delivered_room (m := m) room)
    rw [Host.Outcome.next.inj (next.symm.trans only), State.answeredBy, keepResponse_owner (s := u) _ session own,
      State.Leaves]
    simp only [State.rest, Rest.mk.injEq]
    exact ⟨rfl, marked, rfl, rfl, rfl, rfl, rfl⟩
  · rw [steady, ← State.steady_delivered s m]
    rfl

/-! ## The rules of the two commands -/

/-- No source that the active bank names is missing when each one it names is defined (R140 step 4). -/
theorem missingSource_none {b : Banks} {c : TripConfig}
    (defined : ∀ (i : Fin 64) (k : Fin 4), b.active.namesSource k i = true → (c.sources[k]).isSome = true) :
    b.missingSource c = none := by
  refine List.findSome?_eq_none_iff.2 fun k _ => ?_
  split
  · rfl
  · next missing =>
    refine Option.map_eq_none_iff.2 (List.find?_eq_none.2 fun i _ named => ?_)
    exact missing (defined i k named)

/-- The code of the state at rest (Table 12-9). -/
theorem restState_code (c : TripConfig) : c.restState.code = if c.required = 0 then 0 else 1 := by
  unfold TripConfig.restState
  split <;> rfl

/-- A configuration taken, with the one counter that a collection given up moves (R141). -/
theorem configure_eq (c : TripConfig) (t : Trip) :
    t.configure c =
      { t with
        config := c
        state := if c.required = 0 then .disarmed else .watching
        asserted := 0
        deadline := none
        counters :=
          { t.counters with
            abandoned :=
              if t.state = .collecting then bump t.counters.abandoned else t.counters.abandoned } } := by
  unfold Trip.configure TripConfig.restState
  by_cases collecting : t.state = .collecting <;> simp only [collecting, if_true, if_false]

theorem setTrip_taken {c : TripConfig} (free : u.trip.state ≠ .tripped) (read : TripConfig.ofBytes args = some c)
    (none_missing : u.banks.missingSource c = none) :
    (setTripCommand args).run u = (withTrip (u.trip.configure c) none u, okReply [c.restState.code]) := by
  have fifteen : ¬args.length ≠ 15 := by simpa using tripConfig_length read
  simp only [setTripCommand, ownerCommand, if_neg fifteen, runSetTrip, if_neg free, read, none_missing]
  rfl

/-- The trip unit as the release leaves it (R139). -/
def releasedTrip (t : Trip) : Trip :=
  { t with
    state := t.config.restState
    asserted := 0
    isol := false
    counters := { t.counters with releases := bump t.counters.releases } }

theorem releaseTrip_taken (tripped : u.trip.state = .tripped) :
    (releaseTripCommand []).run u =
      (withTrip (releasedTrip u.trip) (some .tripReleased) u, okReply [u.trip.config.restState.code]) := by
  simp only [releaseTripCommand, ownerCommand, noArguments, if_true, runReleaseTrip, if_pos tripped]
  rfl

/-- Settles O36, by the rules of the two commands. -/
theorem tripCommands : Obligations.TripCommands := by
  unfold Obligations.TripCommands
  refine fun m seq x s h => ⟨fun args c read free named => ?_, fun tripped => ?_⟩
  · have defined : (s.delivered m).banks.missingSource c = none := missingSource_none fun i k names => by
      simp only [Bank.namesSource, Bool.and_eq_true, beq_iff_eq] at names
      exact named i k names.1 names.2
    obtain ⟨t, next, -, only, steady⟩ := addressed_trip h (argsFit_of (tripConfig_length read) (by decide))
      (setTrip_taken (u := s.delivered m) free read defined)
    rw [restState_code, configure_eq] at steady
    rw [restState_code] at only
    exact ⟨t, next, only, steady⟩
  · obtain ⟨t, next, flag, only, steady⟩ := addressed_trip (args := []) h rfl
      (releaseTrip_taken (u := s.delivered m) tripped)
    rw [restState_code] at only steady
    exact ⟨t, next, flag _ rfl, only, steady⟩

end Sys2Proof.Machine.TripLaws
end

section
/-! The session, the parameters, the shadow state and the image store with the waiting commands: what the invariants of
R147, R156, R163 and R186 to R189 read, and the many operations that leave all of it as it is. -/

namespace Sys2Proof.Machine.SettingsLaws

/-! ## The standing part -/

/-- What the invariants on the session and the settings read of a state, and the commands that wait. -/
structure Standing where
  phase       : Phase
  session     : Option Session
  params      : Params
  shadowState : ShadowState
  image       : ImageStore
  pending     : List Instr

/-- The standing part of a state. -/
def standing (s : State) : Standing where
  phase := s.phase
  session := s.agent.session
  params := s.agent.params
  shadowState := s.banks.shadowState
  image := s.image
  pending := s.pending

/-- `State.SessionOk` on the standing part (R147, R163). -/
def Standing.SessionOk (x : Standing) : Prop :=
  (∀ y ∈ x.session, y.Proper x.params.ownStation) ∧ x.shadowState.Counted ∧
    (x.shadowState.isLoading = true → x.session.isSome)

/-- `State.SettingsOk` on the standing part (R156, R186 to R189). -/
def Standing.SettingsOk (x : Standing) : Prop :=
  x.params.InRange ∧ x.image.slot0.Sound ∧ x.image.slot1.Sound ∧
    ∀ w ∈ x.image.store,
      x.phase = .running ∧ x.image.slot w.target = Slot.written w.snapshot ∧ w.snapshot.params.InRange

/-- Both invariants. -/
structure Standing.Proper (x : Standing) : Prop where
  session  : x.SessionOk
  settings : x.SettingsOk

theorem proper_iff {s : State} : (standing s).Proper ↔ s.SessionOk ∧ s.SettingsOk :=
  ⟨fun ⟨h, k⟩ => ⟨h, k⟩, fun ⟨h, k⟩ => ⟨h, k⟩⟩

/-- From `s` to `t` no waiting command is lost or added, and the session and the settings stay proper. -/
structure Keeps (s t : State) : Prop where
  pending : t.pending = s.pending
  proper  : (standing s).Proper → (standing t).Proper

variable {s t u : State}

theorem Keeps.same (e : standing t = standing s) : Keeps s t := ⟨congrArg Standing.pending e, fun h => e ▸ h⟩

theorem Keeps.refl (s : State) : Keeps s s := .same rfl

theorem Keeps.trans (h : Keeps s t) (k : Keeps t u) : Keeps s u :=
  ⟨k.pending.trans h.pending, fun p => k.proper (h.proper p)⟩

/-- An operation on a state with the same standing part. -/
theorem Keeps.since (h : Keeps t u) (e : standing t = standing s) : Keeps s u := (Keeps.same e).trans h

/-! ## What leaves the standing part as it is -/

/-- The queues and the event unit are no part of it. -/
theorem standing_of_grows (g : s.Grows t) : standing t = standing s := by
  obtain ⟨q, ev, rfl, -⟩ := g; rfl

theorem settle_standing (s : State) : standing s.settle = standing s := standing_of_grows s.grows_settle

theorem admit_standing (s : State) (side : Side) (f : Frame) : standing (s.admitFrame side f).1 = standing s :=
  standing_of_grows (s.grows_admit side f)

theorem forward_standing (s : State) (side : Side) (f : Frame) : standing (s.forward side f).1 = standing s := by
  unfold State.forward
  split
  · rfl
  · exact admit_standing (s.countClassifier side _) side.far _

theorem defaultAction_standing (s : State) (side : Side) (f : Frame) :
    standing (s.defaultAction side f) = standing s := by
  unfold State.defaultAction
  dsimp only
  split
  · exact forward_standing (s.countClassifier side _) side f
  · rfl

theorem settleReply_standing (s : State) (side : Side) (tag : Tag) :
    standing (s.settleReply side tag) = standing s := by
  unfold State.settleReply
  split <;> rfl

theorem tagStep_standing (s : State) (side : Side) (tag : Tag) (settled : Bool) (p : Payload) (e : Entry) :
    standing (s.tagStep side tag settled p e).1 = standing s := by
  dsimp only [State.tagStep]
  repeat' split
  all_goals rfl

theorem dataOnward_standing (s : State) (side : Side) (tag : Tag) (settled : Bool) (f : Frame) (e : Entry) :
    standing (s.dataOnward side tag settled f e) = standing s := by
  have stepped := tagStep_standing s side tag settled f.payload e
  unfold State.dataOnward
  split
  · split
    · next eq => rw [eq] at stepped; exact (forward_standing _ side _).trans stepped
    · next eq => rw [eq] at stepped; exact stepped
    · next eq => rw [eq] at stepped; exact stepped
  · exact forward_standing s side _

/-- Entry into TRIPPED purges the queues and clears the outstanding list (R137). -/
theorem enterTripped_standing (s : State) (k : Fin 4) (side : Side) (tag : Tag) :
    standing (s.enterTripped k side tag) = standing s := by
  have cleared : ∀ u : State, standing u.clearQueries = standing u := by
    intro u
    obtain ⟨-, banks, -, -, -, agent, -, image, phase, -, -, pending⟩ := u.clearQueries_keeps
    simp only [standing, banks, agent, image, phase, pending]
  have purged : ∀ u : State, standing ((u.tripPurge .a).tripPurge .b).clearQueries = standing u := fun u => cleared _
  exact purged (State.setFlag .tripped _)

theorem tripStep_standing (s : State) (side : Side) (tag : Tag) (f : Frame) (e : Entry) :
    standing (s.tripStep side tag f e).1 = standing s := by
  have collected : ∀ (u : State) (k : Fin 4), standing (u.collect k side tag).1 = standing u := by
    intro u k
    unfold State.collect
    dsimp only
    split
    · exact enterTripped_standing u k side tag
    · rfl
  unfold State.tripStep State.offerTrip State.assertSource
  dsimp only
  repeat' split
  · rfl
  · exact collected ((s.countTrip _).beginCollection) _
  · rfl
  · exact collected (s.countTrip _) _
  · rfl
  · rfl
  · rfl
  · rfl

theorem dataUnder_standing (s : State) (side : Side) (tag : Tag) (settled : Bool) (f : Frame) (e : Entry) :
    standing (s.dataUnder side tag settled f e) = standing s := by
  have offered := tripStep_standing s side tag f e
  unfold State.dataUnder
  split
  · next eq => rw [eq] at offered; exact offered
  · next eq =>
    rw [eq] at offered
    split
    · exact offered
    · exact (dataOnward_standing _ side tag settled f e).trans offered

/-- A DATA frame (R15 to R26). -/
theorem classifyData_standing (s : State) (side : Side) (reply : Bool) (tag : Tag) (f : Frame) :
    standing (s.classifyData side reply tag f) = standing s := by
  have matched : ∀ (u : State) settled, standing (u.matchData side tag settled f) = standing u := by
    intro u settled
    unfold State.matchData
    split
    · exact dataUnder_standing (u.hit _) side tag settled f _
    · exact defaultAction_standing u side f
  unfold State.classifyData
  dsimp only
  repeat' split
  · rfl
  · exact (matched _ _).trans (settleReply_standing (s.countClassifier side _) side tag)
  · exact matched (s.countClassifier side _) _

/-- The proxy step (R54): an answer, an entry coalesced or made, or nothing. -/
theorem proxyStep_standing (s : State) (side : Side) (tag : Tag) (hop : Hop) (cls : FClass) :
    standing (s.proxyStep side tag hop cls).1 = standing s := by
  have asked : ∀ (u : State) found, standing (u.askAcross side tag hop cls found).1 = standing u := by
    intro u found
    dsimp only [State.askAcross]
    repeat' split
    all_goals rfl
  have answered : ∀ (u : State) value, standing (u.answerQuery side tag value cls) = standing u := fun u value =>
    admit_standing u side (answerFrame u.agent.params tag value cls)
  dsimp only [State.proxyStep]
  split
  · exact answered { s with tags := _ } _
  · exact asked { s with tags := _ } _

theorem forwardTracked_standing (s : State) (side : Side) (tag : Tag) (f : Frame) :
    standing (s.forwardTracked side tag f) = standing s := by
  have sent := forward_standing s side f
  have withdrawn : ∀ u : State, standing (u.withdrawQuery side tag) = standing u := by
    intro u
    unfold State.withdrawQuery
    split <;> rfl
  unfold State.forwardTracked
  split
  · next eq => rw [eq] at sent; exact (withdrawn _).trans sent
  · next eq => rw [eq] at sent; exact sent

theorem queryUnder_standing (s : State) (side : Side) (tag : Tag) (f : Frame) (e : Entry) :
    standing (s.queryUnder side tag f e) = standing s := by
  have asked := proxyStep_standing s side tag f.hop (e.classOf f.cls)
  unfold State.queryUnder
  split
  · rfl
  · exact forward_standing s side _
  · exact forward_standing s side _
  · split
    · next eq => rw [eq] at asked; exact asked
    · next eq => rw [eq] at asked; exact asked
    · next eq => rw [eq] at asked; exact (forwardTracked_standing _ side tag _).trans asked
    · next eq => rw [eq] at asked; exact (forward_standing _ side _).trans asked

/-- A QUERY frame (R15, R19, R21, R23). -/
theorem classifyQuery_standing (s : State) (side : Side) (reply : Bool) (tag : Tag) (f : Frame) :
    standing (s.classifyQuery side reply tag f) = standing s := by
  unfold State.classifyQuery State.matchQuery
  dsimp only
  repeat' split
  · rfl
  · rfl
  · exact queryUnder_standing (State.hit _ (s.countClassifier side _)) side tag f _
  · exact defaultAction_standing (s.countClassifier side _) side f

theorem forwardMgmt_standing (s : State) (side : Side) (f : Frame) :
    standing (s.forwardMgmt side f) = standing s := by
  unfold State.forwardMgmt
  split
  · rfl
  · exact forward_standing s side f

theorem respond_standing (s : State) (m : Arrival) (r : Response) : standing (s.respond m r) = standing s := by
  obtain ⟨u, grown, e⟩ := State.respond_cases (s := s) m r
  have kept := standing_of_grows grown
  rcases e with e | e <;> rw [e] <;> exact kept

theorem takeAck_standing (s : State) (src : Station) (seq : Byte) : standing (s.takeAck src seq) = standing s := by
  unfold State.takeAck
  split <;> rfl

/-! ## Ports and deadlines -/

theorem endAttempt_standing (s : State) (side : Side) (o : LineOutcome) :
    standing (s.endAttempt side o) = standing s := by
  have tested : ∀ u : State, standing (u.testSide side) = standing u := by
    intro u
    unfold State.testSide
    dsimp only
    repeat' split
    all_goals rfl
  unfold State.endAttempt
  split
  · have settled := standing_of_grows (s.grows_settleFate side o)
    exact (tested _).trans settled
  · rfl

theorem select_standing (s : State) (side : Side) : standing (s.select side) = standing s := by
  unfold State.select
  repeat' split
  all_goals rfl

theorem autoRecover_standing (s : State) (side : Side) : standing (s.autoRecover side) = standing s := by
  unfold State.autoRecover
  dsimp only
  split <;> rfl

theorem ageOut_standing (s : State) (side : Side) (place : Nat) : standing (s.ageOut side place) = standing s := by
  unfold State.ageOut
  repeat' split
  · exact standing_of_grows (s.grows_expire side place)
  · rfl
  · rfl

theorem timeoutQuery_standing (s : State) (place : Nat) : standing (s.timeoutQuery place) = standing s := by
  unfold State.timeoutQuery
  repeat' split
  all_goals rfl

theorem lapseWindow_standing (s : State) : standing s.lapseWindow = standing s := by
  unfold State.lapseWindow
  split <;> rfl

theorem retryReport_standing (s : State) : standing s.retryReport = standing s := by
  unfold State.retryReport
  repeat' split
  all_goals rfl

end Sys2Proof.Machine.SettingsLaws
end

section
/-! Parameters and slots: a value set within its range leaves every parameter within its range (R156), and a slot that
is examined, written or verified is sound (R186 to R190). -/

namespace Sys2Proof.Machine.SettingsLaws

/-! ## One parameter set -/

theorem mem_all (i : ParamId) : i ∈ ParamId.all := by
  cases i with
  | start side | ceiling side => cases side <;> decide
  | ageLimit c => revert c; decide
  | level g => cases g <;> decide
  | _ => decide

theorem admits_iff {i : ParamId} {v : BitVec 16} :
    i.admits v = true ↔ i.range.1 ≤ v.toNat ∧ v.toNat ≤ i.range.2 := by
  simp [ParamId.admits]

/-- A value no wider than its field is read as it was set. -/
theorem setWidth_setWidth_of_lt {v : BitVec 16} {n : Nat} (h : v.toNat < 2 ^ n) : (v.setWidth n).setWidth 16 = v := by
  apply BitVec.eq_of_toNat_eq
  simp only [BitVec.toNat_setWidth, Nat.mod_eq_of_lt h, Nat.mod_eq_of_lt v.isLt]

/-- A value of 0 or 1 as a flag (Table 12-4). -/
theorem flag_value {v : BitVec 16} (h : v.toNat ≤ 1) : v = 0 ∨ v = 1 := by
  rcases Nat.le_one_iff_eq_zero_or_eq_one.1 h with e | e
  · exact .inl (BitVec.eq_of_toNat_eq e)
  · exact .inr (BitVec.eq_of_toNat_eq e)

/-- The parameter set reads the value it was set to (R156). -/
theorem value_withValue_same (p : Params) {i : ParamId} {v : BitVec 16} (h : i.admits v = true) :
    (p.withValue i v).value i = v := by
  obtain ⟨-, high⟩ := admits_iff.1 h
  cases i with
  | ownStation | originHop | mgmtClass | reportStation =>
    exact setWidth_setWidth_of_lt (Nat.lt_of_le_of_lt high (by decide))
  | start side => rcases flag_value high with rfl | rfl <;> simp [Params.withValue, Params.value]
  | reportSide => rcases flag_value high with rfl | rfl <;> rfl
  | retryLimit => simp [Params.withValue, Params.value]
  | ceiling side => simp [Params.withValue, Params.value]
  | level g => simp [Params.withValue, Params.value]
  | ageLimit c => simp [Params.withValue, Params.value, Params.ageLimit]
  | autoRecover | queryTimeout => rfl

/-- Every other parameter stays (R156). -/
theorem value_withValue_other (p : Params) {i j : ParamId} (v : BitVec 16) (h : j ≠ i) :
    (p.withValue i v).value j = p.value j := by
  cases i with
  | start side | ceiling side =>
    cases j with
    | start side' | ceiling side' =>
      cases side <;> cases side' <;> trivial
    | _ => rfl
  | ageLimit c =>
    cases j with
    | ageLimit c' =>
      have apart : c.toNat ≠ c'.toNat := fun e => h (by rw [BitVec.eq_of_toNat_eq e])
      simp [Params.withValue, Params.value, Params.ageLimit, apart]
    | _ => rfl
  | level g =>
    cases j with
    | level g' =>
      have apart : g' ≠ g := fun e => h (by rw [e])
      simp [Params.withValue, Params.value, PerGroup.get_set_at, apart]
    | _ => rfl
  | _ => cases j <;> trivial

/-- A value within its parameter's range leaves all of them within theirs (R156). -/
theorem withValue_inRange {p : Params} (h : p.InRange) {i : ParamId} {v : BitVec 16} (admits : i.admits v = true) :
    (p.withValue i v).InRange := by
  obtain ⟨each, retry, ceilings, levels⟩ := h
  obtain ⟨-, high⟩ := admits_iff.1 admits
  refine ⟨fun j mem => ?_, ?_⟩
  · by_cases same : j = i
    · subst same; rw [value_withValue_same p admits]; exact admits
    · rw [value_withValue_other p v same]; exact each j mem
  · cases i with
    | retryLimit => exact ⟨high, ceilings, levels⟩
    | ceiling side =>
      cases side with
      | a => exact ⟨retry, ⟨high, ceilings.2⟩, levels⟩
      | b => exact ⟨retry, ⟨ceilings.1, high⟩, levels⟩
    | level g =>
      obtain ⟨port, table, traffic, guard⟩ := levels
      cases g with
      | port => exact ⟨retry, ceilings, high, table, traffic, guard⟩
      | table => exact ⟨retry, ceilings, port, high, traffic, guard⟩
      | traffic => exact ⟨retry, ceilings, port, table, high, guard⟩
      | guard => exact ⟨retry, ceilings, port, table, traffic, high⟩
    | _ => exact ⟨retry, ceilings, levels⟩

/-- The defaults are within range, whatever the straps (Table 8-5). -/
theorem factory_inRange (strap : BitVec 4) : (Params.factory strap).InRange := by
  revert strap; decide

/-! ## Slots -/

/-- An examined slot holds what it held, and is VALID only when all is there (R190 step 3). -/
theorem examined_sound {x : Slot} (h : x.Sound) (check : Bool) : (x.examined check).Sound := by
  obtain ⟨ranges, -⟩ := h
  unfold Slot.examined
  split
  · next none => exact ⟨by rw [none]; simp, by simp⟩
  · next c cells =>
    refine ⟨?_, fun valid => ⟨_, rfl, ?_⟩⟩
    · rintro c' ⟨⟩
      exact ranges c cells
    · dsimp only at valid ⊢
      split at valid
      · next all => simpa [and_assoc] using all
      · cases valid

theorem written_sound {img : Image} (h : img.params.InRange) : (Slot.written img).Sound :=
  ⟨by rintro c ⟨⟩; exact h, fun valid => nomatch valid⟩

theorem verified_sound {img : Image} (h : img.params.InRange) : (Slot.verified img).Sound :=
  ⟨by rintro c ⟨⟩; exact h, fun _ => ⟨_, rfl, rfl, rfl, rfl⟩⟩

/-- The image of a sound slot has its parameters within range. -/
theorem image_inRange {x : Slot} (h : x.Sound) {img : Image} (e : x.image = some img) : img.params.InRange := by
  obtain ⟨ranges, -⟩ := h
  unfold Slot.image at e
  split at e
  · obtain ⟨c, cells, rfl⟩ := Option.map_eq_some_iff.1 e
    exact ranges c cells
  · cases e
  · cases e

/-- What start-up loads has its parameters within range (R190, R191). -/
theorem startImage_inRange {x : ImageStore} (h0 : x.slot0.Sound) (h1 : x.slot1.Sound) :
    x.startImage.params.InRange := by
  have newest : ∀ i img, x.newest = some (i, img) → img.params.InRange := by
    intro i img e
    unfold ImageStore.newest at e
    split at e
    · next e0 e1 =>
      split at e <;> cases e
      · exact image_inRange h1 e1
      · exact image_inRange h0 e0
    · next e0 _ => cases e; exact image_inRange h0 e0
    · next _ e1 => cases e; exact image_inRange h1 e1
    · cases e
  unfold ImageStore.startImage
  split
  · next e => exact newest _ _ e
  · exact factory_inRange _

end Sys2Proof.Machine.SettingsLaws
end

section
/-! The agent and every row of the table (R143, R144): the few rules that change the session, a parameter, the shadow
state or a slot keep them proper, and everything else leaves the standing part as it is. -/

namespace Sys2Proof.Machine.SettingsLaws

variable {s t : State}

/-! ## Changes of the standing part -/

/-- The session replaced by one with a proper owner, and ended only while no transfer is open. -/
theorem withSession_keeps {x : Option Session}
    (proper : (standing s).Proper → ∀ y ∈ x, y.Proper s.agent.params.ownStation)
    (lasts : s.banks.shadowState.isLoading = true → s.agent.session.isSome = true → x.isSome = true) :
    Keeps s (s.withSession x) := by
  refine ⟨rfl, fun h => ?_⟩
  obtain ⟨⟨-, counted, owned⟩, settings⟩ := id h
  exact ⟨⟨proper h, counted, fun loading => lasts loading (owned loading)⟩, settings⟩

/-- The shadow state replaced by one with proper counts, LOADING in a session only. -/
theorem shadowState_keeps {x : ShadowState} (e : standing t = { standing s with shadowState := x })
    (counted : (standing s).Proper → x.Counted)
    (owned : x.isLoading = true → (standing s).Proper → s.agent.session.isSome = true) : Keeps s t := by
  refine ⟨congrArg Standing.pending e, fun h => ?_⟩
  obtain ⟨⟨owner, -, -⟩, settings⟩ := id h
  rw [e]
  exact ⟨⟨owner, counted h, fun loading => owned loading h⟩, settings⟩

/-- A transfer that goes on or ends in the session it was opened in. -/
theorem transfer_keeps {tr : Transfer} {x : ShadowState} (loading : s.banks.shadowState = .loading tr)
    (e : standing t = { standing s with shadowState := x })
    (counted : 1 ≤ tr.declared → tr.declared ≤ 65 → tr.expected ≤ tr.declared → x.Counted) : Keeps s t := by
  have open_now : (standing s).shadowState = .loading tr := loading
  refine shadowState_keeps e (fun h => ?_) fun _ h => h.session.2.2 (by rw [open_now]; rfl)
  obtain ⟨-, counts, -⟩ := h.session
  rw [open_now] at counts
  obtain ⟨low, high, applied⟩ := counts
  exact counted low high applied

theorem abortTransfer_keeps (s : State) : Keeps s s.abortTransfer := by
  unfold State.abortTransfer
  split
  · next loading => exact transfer_keeps (x := .incomplete) loading rfl fun _ _ _ => trivial
  · exact .refl s
  · exact .refl s

/-- The end of the session, its transfer aborted first (R150). -/
theorem endSession_keeps (s : State) : Keeps s s.endSession := by
  have idle : s.abortTransfer.banks.shadowState.isLoading = false := by
    unfold State.abortTransfer
    cases shadow : s.banks.shadowState <;> simp [shadow, ShadowState.isLoading]
  exact (abortTransfer_keeps s).trans (withSession_keeps (fun _ y mem => nomatch mem) fun loading => by
    rw [idle] at loading; cases loading)

theorem expireLease_keeps (s : State) : Keeps s s.expireLease := by
  unfold State.expireLease
  repeat' split
  · exact (endSession_keeps s).trans (.same rfl)
  · exact .refl s
  · exact .refl s

theorem expireTransfer_keeps (s : State) : Keeps s s.expireTransfer := by
  unfold State.expireTransfer
  repeat' split
  · exact abortTransfer_keeps s
  all_goals exact .refl s

/-! ## The end of a command -/

/-- The agent of a running part is given a message of a station that R27 lets through. -/
structure Given (src : Station) (s : State) : Prop where
  running     : s.phase = .running
  unicast     : src ≠ stationBroadcast
  present     : src ≠ stationNone
  foreign     : src ≠ s.agent.params.ownStation

theorem Given.since {src : Station} (h : Given src s) (e : standing t = standing s) : Given src t := by
  have phase : t.phase = s.phase := congrArg Standing.phase e
  have params : t.agent.params = s.agent.params := congrArg Standing.params e
  exact ⟨phase.trans h.running, h.unicast, h.present, params ▸ h.foreign⟩

/-- Renewing the lease changes neither the owner nor the lease (R149). -/
theorem renewed_keeps {f : Session → Session} (owner : ∀ x, (f x).owner = x.owner)
    (lease : ∀ x, (f x).lease = x.lease) :
    Keeps s (s.withSession (s.agent.session.map f)) := by
  refine withSession_keeps (fun h y mem => ?_) fun _ there => by simpa using there
  obtain ⟨x, session, rfl⟩ := Option.map_eq_some_iff.1 mem
  have proper := h.session.1 x session
  simp only [Session.Proper, owner, lease]
  exact proper

theorem keepResponse_keeps (s : State) (m : Arrival) (r : Response) : Keeps s (s.keepResponse m r) := by
  unfold State.keepResponse
  split
  · next x session =>
    split
    · have kept := renewed_keeps (s := s)
        (f := fun x => { x.renew s.now m.side with lastSeq := r.seq, cached := r }) (fun _ => rfl) fun _ => rfl
      rw [session] at kept
      exact kept
    · exact .refl s
  · exact .refl s

theorem finish_keeps (s : State) (first : Bool) (m : Arrival) (r : Response) : Keeps s (s.finish first m r) := by
  have kept := keepResponse_keeps s m r
  unfold State.finish
  dsimp only
  split
  · exact (kept.trans (.same (settle_standing _))).trans (.same (respond_standing _ m r))
  · exact kept.trans (.same (respond_standing _ m r))

/-- A command of a station that R27 lets through keeps what it may change, and its refusal changes nothing of it. -/
structure KeptBy (m : Arrival) (c : Command) : Prop where
  run    : ∀ s, Given m.source s → (c.ownerOnly = true → s.ownedBy m.source = true) → Keeps s (c.run s).1
  refuse : ∀ s, standing (c.refuse s).1 = standing s

/-- A COMMAND taken by the agent (R144). -/
theorem take_keeps {m : Arrival} {c : Command} (hc : KeptBy m c) (seq : Byte) (given : Given m.source s) :
    Keeps s (s.take m seq c) := by
  have decided : Keeps s (s.countCommand.decideCommand m c).1 := by
    unfold State.decideCommand
    split
    · exact .same (hc.refuse (s.countCommand.countAgent _))
    · next lets =>
      refine (hc.run s.countCommand (given.since rfl) fun only => ?_).since rfl
      simpa [only] using lets
  unfold State.take
  split
  · have renewed := renewed_keeps (s := s) (f := Session.renew s.now m.side) (fun _ => rfl) fun _ => rfl
    exact renewed.trans (.same (respond_standing _ m _))
  · split
    next eq => rw [eq] at decided; exact decided.trans (finish_keeps _ _ m _)

/-! ## Commands that leave the standing part as it is -/

/-- A rule that changes nothing of the session, the parameters, the shadow state and the slots. -/
def Stands (run : State → State × Reply) : Prop := ∀ s : State, standing (run s).1 = standing s

variable {run : State → State × Reply} {code : Byte} {m : Arrival}

theorem openCommand_stands (h : Stands run) : KeptBy m (openCommand code run) :=
  ⟨fun s _ _ => .same (h s), fun _ => rfl⟩

theorem ownerCommand_stands (h : Stands run) : KeptBy m (ownerCommand code run) :=
  ⟨fun s _ _ => .same (h s), fun _ => rfl⟩

theorem noArguments_stands (h : Stands run) (args : Payload) : Stands (noArguments args run) := by
  intro s
  unfold noArguments
  split
  · exact h s
  · rfl

theorem identify_kept (args : Payload) : KeptBy m (identifyCommand args) :=
  openCommand_stands (noArguments_stands (fun _ => rfl) args)

theorem status_kept (args : Payload) : KeptBy m (statusCommand m args) := by
  refine openCommand_stands fun s => ?_
  repeat' split
  all_goals rfl

theorem readCounters_kept (args : Payload) : KeptBy m (readCountersCommand args) := by
  refine openCommand_stands fun s => ?_
  repeat' split
  all_goals rfl

theorem clearSet_standing (s : State) (n : Nat) : standing (s.clearSet n) = standing s := by
  unfold State.clearSet
  split <;> rfl

theorem clearCounters_kept (args : Payload) : KeptBy m (clearCountersCommand args) := by
  have cleared : ∀ (l : List Nat) (u : State), standing (l.foldl (fun s i => s.clearSet i) u) = standing u := by
    intro l
    induction l with
    | nil => intro u; rfl
    | cons i l ih => intro u; exact (ih _).trans (clearSet_standing u i)
  refine ownerCommand_stands fun s => ?_
  repeat' split
  · exact cleared _ s
  · exact clearSet_standing s _
  · rfl
  · rfl

theorem readEntry_kept (args : Payload) : KeptBy m (readEntryCommand args) := by
  refine openCommand_stands fun s => ?_
  dsimp only
  repeat' split
  all_goals rfl

theorem writeEntry_kept (args : Payload) : KeptBy m (writeEntryCommand args) := by
  refine ownerCommand_stands fun s => ?_
  unfold inClean
  repeat' split
  all_goals rfl

theorem writeMasksDefaults_kept (args : Payload) : KeptBy m (writeMasksDefaultsCommand args) := by
  refine ownerCommand_stands fun s => ?_
  unfold inClean
  repeat' split
  all_goals rfl

theorem readRecord_kept (args : Payload) : KeptBy m (readRecordCommand args) := by
  have read : ∀ (s : State) (i : Fin 48) (page : Nat), standing (s.readout i page).1 = standing s := by
    intro s i page
    unfold State.readout
    split <;> rfl
  refine openCommand_stands fun s => ?_
  repeat' split
  · exact read s _ _
  · rfl
  · rfl
  · exact read s _ _
  all_goals rfl

theorem flush_kept (args : Payload) : KeptBy m (flushCommand args) :=
  ownerCommand_stands (noArguments_stands (fun _ => rfl) args)

theorem readQueries_kept (args : Payload) : KeptBy m (readQueriesCommand args) := by
  refine openCommand_stands fun s => ?_
  repeat' split
  all_goals rfl

theorem cancelTag_kept (args : Payload) : KeptBy m (cancelTagCommand args) := by
  refine ownerCommand_stands fun s => ?_
  repeat' split
  · exact standing_of_grows (s.grows_cancelTag _ _)
  · rfl
  · rfl

theorem abortAttempt_standing (s : State) (side : Side) : standing (s.abortAttempt side) = standing s := by
  unfold State.abortAttempt
  split <;> rfl

theorem sideControl_kept (args : Payload) : KeptBy m (sideControlCommand args) := by
  have acted : ∀ (s u : State) (side : Side) (action : SideAction), s.sideAction side action = some u →
      standing u = standing s := by
    intro s u side action e
    unfold State.sideAction at e
    split at e <;> cases e
    · rfl
    · exact abortAttempt_standing s side
    · rfl
    · rfl
  refine ownerCommand_stands fun s => ?_
  unfold runSideControl
  repeat' split
  · next e => exact acted s _ _ _ e
  all_goals rfl

theorem readConfig_kept (args : Payload) : KeptBy m (readConfigCommand args) := by
  refine openCommand_stands fun s => ?_
  dsimp only
  repeat' split
  all_goals rfl

theorem setTrip_kept (args : Payload) : KeptBy m (setTripCommand args) := by
  refine ownerCommand_stands fun s => ?_
  unfold runSetTrip
  repeat' split
  all_goals rfl

theorem releaseTrip_kept (args : Payload) : KeptBy m (releaseTripCommand args) := by
  refine ownerCommand_stands (noArguments_stands (fun s => ?_) args)
  unfold runReleaseTrip
  split <;> rfl

theorem readEvents_kept (args : Payload) : KeptBy m (readEventsCommand args) := by
  refine openCommand_stands fun s => ?_
  repeat' split
  all_goals rfl

theorem clearEvents_kept (args : Payload) : KeptBy m (clearEventsCommand args) := by
  refine ownerCommand_stands fun s => ?_
  split <;> rfl

theorem enableEvents_kept (args : Payload) : KeptBy m (enableEventsCommand args) := by
  refine ownerCommand_stands fun s => ?_
  split
  · exact settle_standing { s with events := _ }
  · rfl

theorem unknown_kept (code : Byte) : KeptBy m (unknownCode code) := openCommand_stands fun _ => rfl

/-! ## Commands on the session, the banks, the parameters and the slots -/

theorem ownerCommand_kept (h : ∀ s, Given m.source s → s.ownedBy m.source = true → Keeps s (run s).1) :
    KeptBy m (ownerCommand code run) := ⟨fun s given owned => h s given (owned rfl), fun _ => rfl⟩

/-- Wrong arguments change nothing. -/
theorem noArguments_keeps (h : Keeps s (run s).1) (args : Payload) : Keeps s (noArguments args run s).1 := by
  unfold noArguments
  split
  · exact h
  · exact .refl s

/-- OPEN makes the sender, a station other than the coupler, the owner, or replaces the owner's lease (R148). -/
theorem openSession_kept (seq : Byte) (args : Payload) : KeptBy m (openSessionCommand m seq args) := by
  refine ⟨fun s given _ => ?_, fun _ => rfl⟩
  dsimp only [openSessionCommand, openCommand]
  split
  · next lease =>
    split
    · exact .refl s
    · next positive =>
      unfold runOpen
      dsimp only
      split
      · refine Keeps.trans (withSession_keeps (fun _ y mem => ?_) fun _ _ => rfl) (.same rfl)
        cases mem
        exact ⟨given.unicast, given.present, given.foreign, positive⟩
      · next x session =>
        split
        · refine withSession_keeps (fun h y mem => ?_) fun _ _ => rfl
          cases mem
          obtain ⟨unicast, present, foreign, -⟩ := h.session.1 x session
          exact ⟨unicast, present, foreign, positive⟩
        · exact .same rfl
  · exact .refl s

theorem close_kept (args : Payload) : KeptBy m (closeCommand args) :=
  ownerCommand_kept fun s _ _ => noArguments_keeps ((endSession_keeps s).trans (.same rfl)) args

theorem copyActive_kept (args : Payload) : KeptBy m (copyActiveCommand args) := by
  refine ownerCommand_kept fun s _ _ => noArguments_keeps ?_ args
  unfold runCopyActive
  split
  · exact .refl s
  all_goals exact shadowState_keeps (x := .clean) rfl (fun _ => trivial) fun loading => nomatch loading

theorem commit_kept (args : Payload) : KeptBy m (commitCommand args) := by
  refine ownerCommand_kept fun s _ _ => noArguments_keeps ?_ args
  unfold inClean runCommit
  repeat' split
  · exact .refl s
  · exact .same rfl
  · exact shadowState_keeps (x := .clean) rfl (fun _ => trivial) fun loading => nomatch loading

/-- The session owner has the session. -/
theorem session_of_ownedBy {src : Station} (h : s.ownedBy src = true) : s.agent.session.isSome = true := by
  unfold State.ownedBy at h
  split at h
  · next session => rw [session]; rfl
  · cases h

/-- LOAD_BEGIN opens a transfer of 1 to 65 parts in the owner's session (R164). -/
theorem loadBegin_kept (args : Payload) : KeptBy m (loadBeginCommand args) := by
  refine ownerCommand_kept fun s _ owned => ?_
  have session := session_of_ownedBy owned
  have counts : ∀ (count : Byte) idle, ¬(count.toNat < 1 ∨ 65 < count.toNat) →
      ShadowState.Counted (.loading ⟨count.toNat, 0, 0, idle⟩) := by
    intro count idle fits
    change 1 ≤ count.toNat ∧ count.toNat ≤ 65 ∧ 0 ≤ count.toNat
    omega
  unfold runLoadBegin
  repeat' split
  · exact .refl s
  · exact .refl s
  · next fits => exact shadowState_keeps rfl (fun _ => counts _ _ fits) fun _ _ => session
  · exact .refl s
  · next fits => exact shadowState_keeps rfl (fun _ => counts _ _ fits) fun _ _ => session
  · exact .refl s

theorem refuseLoadPart_stands (status : Status) (args : Payload) : Stands (refuseLoadPart status args) := by
  intro s
  cases args <;> rfl

/-- LOAD_PART applies the expected part, which is below the declared count (R166). -/
theorem loadPart_kept (args : Payload) : KeptBy m (loadPartCommand args) := by
  refine ⟨fun s _ _ => ?_, refuseLoadPart_stands _ args⟩
  dsimp only [loadPartCommand]
  split
  · unfold runLoadPart
    split
    · exact .refl s
    · exact .refl s
    · next tr loading =>
      repeat' split
      · exact .refl s
      · exact transfer_keeps loading rfl fun low high applied => ⟨low, high, applied⟩
      · exact abortTransfer_keeps s
      · exact transfer_keeps loading rfl fun low high _ => ⟨low, high, by dsimp only; omega⟩
      · exact .refl s
  · exact .same (refuseLoadPart_stands _ _ s)

theorem loadEnd_kept (args : Payload) : KeptBy m (loadEndCommand args) := by
  refine ownerCommand_kept fun s _ _ => ?_
  split
  · unfold runLoadEnd
    split
    · exact .refl s
    · exact .refl s
    · next loading =>
      repeat' split
      · exact abortTransfer_keeps s
      · exact abortTransfer_keeps s
      · exact transfer_keeps (x := .clean) loading rfl fun _ _ _ => trivial
  · exact .refl s

/-- A parameter set to a value in its range; OWN_STATION is not set to the owner's number (R156). -/
theorem configure_keeps {i : ParamId} {v : BitVec 16} (admits : i.admits v = true)
    (taken : s.refusesConfig i v = false) : Keeps s (s.configure i v) := by
  have set : Keeps s (s.withParams (s.agent.params.withValue i v)) := by
    refine ⟨rfl, fun h => ⟨⟨fun x session => ?_, h.session.2⟩, ?_⟩⟩
    · obtain ⟨unicast, present, foreign, lease⟩ := h.session.1 x session
      refine ⟨unicast, present, ?_, lease⟩
      cases i with
      | ownStation =>
        have session : s.agent.session = some x := session
        have apart : x.owner ≠ v.setWidth 12 := by simpa [State.refusesConfig, session] using taken
        exact apart
      | _ => exact foreign
    · obtain ⟨range, slots⟩ := h.settings
      exact ⟨withValue_inRange range admits, slots⟩
  unfold State.configure
  dsimp only
  split
  · exact set.trans (.same (standing_of_grows ((State.grows_rereadAge _ _ _).trans (State.grows_rereadAge _ _ _))))
  · exact set

theorem setConfig_kept (args : Payload) : KeptBy m (setConfigCommand args) := by
  refine ownerCommand_kept fun s _ _ => ?_
  repeat' split
  · exact .refl s
  · exact .refl s
  · exact .refl s
  · next admits taken => exact configure_keeps (by simpa using admits) (by simpa using taken)
  · exact .refl s

/-- STORE spoils its target and leaves the other slot (R187). -/
theorem beginStore_keeps (running : s.phase = .running) : Keeps s s.beginStore := by
  refine ⟨rfl, fun h => ⟨h.session, ?_⟩⟩
  obtain ⟨range, sound0, sound1, -⟩ := h.settings
  have spoiled : (Slot.written s.snapshot).Sound := written_sound range
  have written : ∀ w ∈ (standing s.beginStore).image.store, (standing s.beginStore).phase = .running ∧
      (standing s.beginStore).image.slot w.target = Slot.written w.snapshot ∧ w.snapshot.params.InRange := by
    rintro w ⟨⟩
    refine ⟨running, ?_, range⟩
    change (ImageStore.slot { s.image.withSlot s.image.target (Slot.written s.snapshot) with store := _ }
      s.image.target) = _
    cases s.image.target <;> rfl
  have slots : (standing s.beginStore).image.slot0.Sound ∧ (standing s.beginStore).image.slot1.Sound := by
    change (s.image.withSlot s.image.target (Slot.written s.snapshot)).slot0.Sound ∧
      (s.image.withSlot s.image.target (Slot.written s.snapshot)).slot1.Sound
    cases s.image.target with
    | zero => exact ⟨spoiled, sound1⟩
    | one => exact ⟨sound0, spoiled⟩
  exact ⟨range, slots.1, slots.2, written⟩

theorem store_kept (args : Payload) : KeptBy m (storeCommand args) := by
  have read : ∀ (u : State) (i : SlotId), standing (u.slotReadout i).1 = standing u := by
    intro u i
    unfold State.slotReadout
    split <;> rfl
  refine ownerCommand_kept fun s given _ => noArguments_keeps ?_ args
  unfold runStore
  split
  · exact .refl s
  · exact (beginStore_keeps given.running).trans (.same ((read _ .one).trans (read _ .zero)))

theorem restart_kept (args : Payload) : KeptBy m (restartCommand args) := by
  refine ⟨fun s _ _ => noArguments_keeps ?_ args, fun _ => rfl⟩
  have side : ∀ (u : State) (x : Side), standing (u.restartSide x) = standing u := abortAttempt_standing
  unfold runRestart
  split
  · exact .refl s
  · exact (abortTransfer_keeps _).since ((side _ .b).trans (side s .a))

/-- Every command keeps the session and the settings proper. -/
theorem commandFor_kept (m : Arrival) (seq code : Byte) (args : Payload) : KeptBy m (commandFor m seq code args) := by
  unfold commandFor
  split
  · exact identify_kept args
  · exact openSession_kept seq args
  · exact close_kept args
  · exact status_kept args
  · exact readCounters_kept args
  · exact clearCounters_kept args
  · exact readEntry_kept args
  · exact writeEntry_kept args
  · exact writeMasksDefaults_kept args
  · exact copyActive_kept args
  · exact commit_kept args
  · exact loadBegin_kept args
  · exact loadPart_kept args
  · exact loadEnd_kept args
  · exact readRecord_kept args
  · exact flush_kept args
  · exact readQueries_kept args
  · exact cancelTag_kept args
  · exact sideControl_kept args
  · exact setConfig_kept args
  · exact readConfig_kept args
  · exact setTrip_kept args
  · exact releaseTrip_kept args
  · exact readEvents_kept args
  · exact clearEvents_kept args
  · exact enableEvents_kept args
  · exact store_kept args
  · exact restart_kept args
  · exact unknown_kept code

end Sys2Proof.Machine.SettingsLaws
end

section
/-! Every row of the table completes, loses no waiting command, and keeps the session and the settings proper. -/

namespace Sys2Proof.Machine.SettingsLaws

variable {s t : State} {m : Arrival}

/-! ## Receptions and messages -/

/-- What the agent does with a message, whatever it is (R143). -/
theorem agentTakes_keeps (toAll : Bool) (payload : Payload) (given : Given m.source s) :
    Keeps s (s.agentTakes m toAll payload) := by
  have announced : ∀ seq args, standing (s.takeBroadcast m seq (identifyCommand args)) = standing s := by
    intro seq args
    have read : standing ((identifyCommand args).run s.countCommand).1 = standing s :=
      noArguments_stands (fun _ => rfl) args s.countCommand
    unfold State.takeBroadcast
    split
    next eq => rw [eq] at read; exact (respond_standing _ m _).trans ((settle_standing _).trans read)
  unfold State.agentTakes State.takeAnnouncement State.takeMessage
  split
  · repeat' split
    · exact .same rfl
    · exact .same (announced _ _)
    · exact .same rfl
    · exact take_keeps (commandFor_kept m _ _ _) _ given
    · exact .same (takeAck_standing s _ _)
    · exact .same rfl
    · exact .same rfl
  · exact .same rfl

/-- A MGMT frame reaches the agent from a station that R27 lets through. -/
theorem classifyMgmt_keeps {agent : State → State} {src : Station} (ha : ∀ u, Given src u → Keeps u (agent u))
    (side : Side) (f : Frame) (dst : Station) (running : s.phase = .running) :
    Keeps s (s.classifyMgmt side f dst src agent) := by
  unfold State.classifyMgmt
  dsimp only
  split
  · exact .same rfl
  · next good =>
    have given : Given src s := by
      simp only [badAddresses, Bool.or_eq_true, beq_iff_eq, not_or] at good
      obtain ⟨⟨⟨unicast, present⟩, foreign⟩, -⟩ := good
      exact ⟨running, unicast, present, foreign⟩
    have handed : Keeps s (agent (s.countClassifier side fun c => { c with mgmtTaken := bump c.mgmtTaken })) := by
      have kept := ha (s.countClassifier side fun c => { c with mgmtTaken := bump c.mgmtTaken }) (given.since rfl)
      exact kept.since rfl
    repeat' split
    · exact handed
    · exact handed.trans (.same (forwardMgmt_standing _ side f))
    · exact .same (forwardMgmt_standing (s.countClassifier side _) side f)

theorem endOfFrame_keeps {take : State → State} (side : Side) (ht : Keeps s (take s)) :
    Keeps s (s.endOfFrame side take) := by
  rcases s.endOfFrame_cases side take with ⟨-, e⟩ | ⟨-, -, e⟩ | ⟨-, -, e⟩ <;> rw [e]
  · exact .same rfl
  · exact .same rfl
  · exact ht

theorem receive_keeps (side : Side) (bytes : List Byte) (running : s.phase = .running) :
    Keeps s (s.receive side bytes) := by
  have classify : ∀ (u : State) (f : Frame), u.phase = .running → Keeps u (u.classify side f) := by
    intro u f running
    unfold State.classify
    split
    · exact .same (classifyData_standing u side _ _ f)
    · exact .same (classifyQuery_standing u side _ _ f)
    · next reply dst src _ =>
      exact classifyMgmt_keeps
        (fun _ given => agentTakes_keeps (m := ⟨side, src, f.cls, f.hop, reply⟩) _ _ given) side f
        dst running
    · exact .same rfl
  refine endOfFrame_keeps side ?_
  split
  · exact (classify ((s.acknowledge side true).countPort side _) _ running).since rfl
  · exact .same rfl

/-- An event of the running part is settled; a part that does not run takes none (R190). -/
theorem event_keeps {f : State → State} (hf : s.phase = .running → Keeps s (f s)) : Keeps s (s.event f) := by
  unfold State.event
  split
  · next running => exact (hf (by simpa [State.running] using running)).trans (.same (settle_standing _))
  · exact .refl s

theorem arrival_keeps {fits toAll : Bool} {payload : Payload} {agent : State → State}
    (ha : ∀ u, Given m.source u → Keeps u (agent u)) (e : arrival fits m toAll payload agent s = .next t) :
    Keeps s t := by
  unfold arrival at e
  split at e <;> cases e
  exact event_keeps fun running => endOfFrame_keeps m.side
    ((classifyMgmt_keeps (s := (s.acknowledge m.side true).countPort m.side _) ha m.side _ _ running).since rfl)

/-! ## The image store, power and start-up -/

/-- The end of a write: the target is VALID, or stays DAMAGED (R188). -/
theorem completeStore_keeps (s : State) (verified : Bool) : Keeps s (s.completeStore verified) := by
  have ended : ∀ w, s.image.store = some w → Keeps s (s.endStore verified w) := by
    intro w writing
    unfold State.endStore
    split
    all_goals
      refine ⟨rfl, fun h => ⟨h.session, ?_⟩⟩
      obtain ⟨range, sound0, sound1, store⟩ := h.settings
      obtain ⟨-, -, inRange⟩ := store w writing
    · have marked := verified_sound inRange
      have slots : (s.image.withSlot w.target (Slot.verified w.snapshot)).slot0.Sound ∧
          (s.image.withSlot w.target (Slot.verified w.snapshot)).slot1.Sound := by
        cases w.target with
        | zero => exact ⟨marked, sound1⟩
        | one => exact ⟨sound0, marked⟩
      exact ⟨range, slots.1, slots.2, fun _ mem => nomatch mem⟩
    · exact ⟨range, sound0, sound1, fun _ mem => nomatch mem⟩
  unfold State.completeStore
  repeat' split
  · next writing _ => exact ended _ writing
  · exact .refl s
  · exact .refl s

/-- A part without session, transfer and write is proper when its parameters and slots are. -/
theorem resting_proper {p : Params} {x : ImageStore} (range : p.InRange) (sound0 : x.slot0.Sound)
    (sound1 : x.slot1.Sound) (idle : x.store = none) (phase : Phase) (pending : List Instr) :
    (Standing.mk phase none p .clean x pending).Proper := by
  refine ⟨⟨fun _ mem => (nomatch mem), trivial, fun loading => nomatch loading⟩, range, sound0, sound1, fun w mem => ?_⟩
  have writing : x.store = some w := mem
  rw [idle] at writing
  cases writing

/-- The slots survive a reset and a power loss (R189, R190). -/
theorem stopped_keeps (s : State) (phase : Phase) : Keeps s (s.stopped phase) := by
  have stopped : standing (s.stopped phase) =
      ⟨phase, none, Params.factory s.image.strap, .clean,
        { s.image with store := none, loaded := none, flagDue := none }, s.pending⟩ := rfl
  refine ⟨rfl, fun h => ?_⟩
  obtain ⟨-, sound0, sound1, -⟩ := h.settings
  rw [stopped]
  exact resting_proper (x := { s.image with store := none, loaded := none, flagDue := none }) (factory_inRange _)
    sound0 sound1 rfl _ _

/-- START_UP leaves the slots as it examined them and the parameters of what it loads (R190 to R192). -/
theorem startUp_keeps (s : State) (strap : BitVec 4) (failmodeHigh checks0 checks1 : Bool) :
    Keeps s (s.startUp strap failmodeHigh checks0 checks1) := by
  set x := s.image.examined strap failmodeHigh checks0 checks1 with hx
  have started : standing (s.startUp strap failmodeHigh checks0 checks1) =
      ⟨.starting, none, x.startImage.params, .clean,
        { x with loaded := x.newest.map Prod.fst, flagDue := x.startFlag }, s.pending⟩ := rfl
  refine ⟨rfl, fun h => ?_⟩
  obtain ⟨-, sound0, sound1, -⟩ := h.settings
  have examined0 : x.slot0.Sound := examined_sound sound0 checks0
  have examined1 : x.slot1.Sound := examined_sound sound1 checks1
  rw [started]
  exact resting_proper (x := { x with loaded := x.newest.map Prod.fst, flagDue := x.startFlag })
    (startImage_inRange examined0 examined1) examined0 examined1 rfl _ _

/-- The running part of STARTING_END has no write in progress, since none is while STARTING (R192). -/
theorem endStarting_keeps (s : State) (busyA busyB : Bool) : Keeps s (s.endStarting busyA busyB) := by
  unfold State.endStarting
  split
  · next starting =>
    refine Keeps.trans ?_ (.same (settle_standing _))
    have begun : ∀ u : State, standing u = { standing s with phase := .running } → Keeps s u.setDue := by
      intro u e
      have due : standing u.setDue = { standing u with image := { u.image with flagDue := none } } := by
        unfold State.setDue
        split
        · rfl
        · next none => rw [← none]; rfl
      have image : u.image = s.image := congrArg Standing.image e
      refine ⟨?_, fun h => ?_⟩
      · exact (congrArg Standing.pending due).trans (congrArg Standing.pending e)
      · rw [due, e, image]
        obtain ⟨range, sound0, sound1, store⟩ := h.settings
        refine ⟨h.session, range, sound0, sound1, fun w mem => ?_⟩
        obtain ⟨running, -⟩ := store w mem
        exact absurd (starting.symm.trans running) (by decide)
    exact begun _ rfl
  all_goals exact .refl s

/-! ## Every row -/

theorem exec_keeps {i : Instr} (e : exec i s = .next t) : Keeps s t := by
  have event : ∀ f : State → State, (∀ u, Keeps u (f u)) → Keeps s (s.event f) := fun f keeps =>
    event_keeps fun _ => keeps s
  cases c : i.command with
  | some x =>
    obtain ⟨m, seq, code⟩ := x
    rw [(CommandRows.command_row (CommandRows.wellFormed_of_next e) c).2] at e
    exact arrival_keeps (fun _ given => take_keeps (commandFor_kept m seq code i.args) seq given) e
  | none =>
    cases i with
    | rstNLow => cases e; exact stopped_keeps s .held
    | powerLoss => cases e; exact stopped_keeps s .unpowered
    | startUp strap failmodeHigh checks0 checks1 => cases e; exact startUp_keeps s strap failmodeHigh checks0 checks1
    | startingEnd busyA busyB => cases e; exact endStarting_keeps s busyA busyB
    | reception side bytes => cases e; exact event_keeps (receive_keeps side bytes)
    | transmitterSelection side => cases e; exact event _ fun u => .same (select_standing u side)
    | lineWaitExpiry side =>
      cases e
      refine event _ fun u => ?_
      split
      · exact .same (endAttempt_standing u side .lineError)
      · exact .refl u
    | attemptCompletion side outcome => cases e; exact event _ fun u => .same (endAttempt_standing u side outcome)
    | recoveryDeadline side => cases e; exact event _ fun u => .same (autoRecover_standing u side)
    | ageDeadline side place => cases e; exact event _ fun u => .same (ageOut_standing u side place)
    | freshnessDeadline record => cases e; exact event _ fun _ => .same rfl
    | queryEntryDeadline place => cases e; exact event _ fun u => .same (timeoutQuery_standing u place)
    | windowDeadline => cases e; exact event _ fun u => .same (lapseWindow_standing u)
    | leaseDeadline => cases e; exact event _ expireLease_keeps
    | idleDeadline => cases e; exact event _ expireTransfer_keeps
    | retryDeadline => cases e; exact event _ fun u => .same (retryReport_standing u)
    | storeCompletion verified => cases e; exact event _ (completeStore_keeps · verified)
    | ack m seq =>
      change arrival true m false (ackPayload seq) (State.takeAck m.source seq) s = .next t at e
      exact arrival_keeps (fun u _ => .same (takeAck_standing u m.source seq)) e
    | badMessage m toAll payload => exact arrival_keeps (agent := State.countBadMessage) (fun _ _ => .same rfl) e
    | ignoredMessage m toAll payload =>
      exact arrival_keeps (agent := State.countIgnoredMessage) (fun _ _ => .same rfl) e
    | identify m toAll seq args =>
      cases toAll with
      | true =>
        change arrival (argsFit args) m true (commandPayload seq 0x01 args)
          (State.takeBroadcast m seq (identifyCommand args)) s = .next t at e
        refine arrival_keeps (fun u given => ?_) e
        exact agentTakes_keeps true (0 :: seq :: 1 :: 0 :: args) given
      | false => cases c
    | _ => cases c

/-- Settles O58: a tick and the queue of commands are no matter of the two invariants, and every row keeps them. -/
theorem sessionsAndSettingsStayProper : Obligations.SessionsAndSettingsStayProper := by
  unfold Obligations.SessionsAndSettingsStayProper
  intro s t session settings e
  rw [← proper_iff]
  have proper : (standing s).Proper := proper_iff.2 ⟨session, settings⟩
  unfold step at e
  split at e
  · cases e
    unfold State.tick
    split <;> exact proper
  · next c rest _ => exact (exec_keeps (s := { s with pending := rest }) e).proper ⟨proper.session, proper.settings⟩

/-! ## Completion -/

/-- A row answers a next state or, when no frame can carry it, the fault; there is no third answer (log entry 20). -/
theorem exec_answers (i : Instr) (s : State) :
    ∃ t, exec i s = if i.wellFormed = true then .next t else .fault .illFormed := by
  cases i <;> exact ⟨_, rfl⟩

/-- Settles O2: what a row answers is decided by its operands, and every row leaves the waiting commands. -/
theorem commandsCompleteAndKeepTheQueue : Obligations.CommandsCompleteAndKeepTheQueue := by
  unfold Obligations.CommandsCompleteAndKeepTheQueue
  intro c s
  obtain ⟨t, answer⟩ := exec_answers c s
  refine ⟨fun fits => ?_, fun unfit => ?_⟩
  · rw [if_pos fits] at answer
    exact ⟨t, answer, (exec_keeps answer).pending⟩
  · rw [answer, if_neg (by simp [unfit])]

end Sys2Proof.Machine.SettingsLaws
end

section
/-! A start-up that finds no VALID image (R190, R191). -/

namespace Sys2Proof.Machine.StartUpLaws

/-- A slot is BLANK, VALID or DAMAGED as its cells and their marks have it (R190 step 3). -/
theorem examined_states (x : Slot) (check : Bool) :
    ((x.examined check).state = .blank ↔ x.cells = none) ∧
      ((x.examined check).state = .valid ↔
        ∃ c, x.cells = some c ∧ c.formatOk = true ∧ c.checkOk = true ∧ check = true ∧ c.marker = true) := by
  unfold Slot.examined
  cases x.cells with
  | none => simp
  | some c =>
    dsimp only
    split
    · next all => simpa [and_assoc] using all
    · next some_missing => simpa [and_assoc] using some_missing

/-- A slot that is not VALID has no image to load. -/
theorem image_none {x : Slot} (h : x.state ≠ .valid) : x.image = none := by
  unfold Slot.image
  split
  · next valid => exact absurd valid h
  · rfl
  · rfl

/-- Without a VALID slot there is no newest image (R186). -/
theorem newest_none {x : ImageStore} (h0 : x.slot0.state ≠ .valid) (h1 : x.slot1.state ≠ .valid) : x.newest = none := by
  unfold ImageStore.newest
  rw [image_none h0, image_none h1]

/-- Without a VALID slot the factory state is loaded, and IMAGE_ABSENT is due (R190 step 5, R191). -/
theorem startUp_factory {s : State} {strap : BitVec 4} {fm c0 c1 : Bool}
    (h0 : (s.image.slot0.examined c0).state ≠ .valid) (h1 : (s.image.slot1.examined c1).state ≠ .valid) :
    s.startUp strap fm c0 c1 =
      State.started (Image.factory strap fm)
        { s.image.examined strap fm c0 c1 with loaded := none, flagDue := some .imageAbsent } s.free s.pending := by
  have none_valid : (s.image.examined strap fm c0 c1).newest = none := newest_none h0 h1
  unfold State.startUp ImageStore.startImage ImageStore.startFlag
  dsimp only
  rw [none_valid]
  rfl

/-- Settles O6, by the examination of a slot and the factory state's values. -/
theorem startUpWithoutAnImageIsFactory : Obligations.StartUpWithoutAnImageIsFactory := by
  unfold Obligations.StartUpWithoutAnImageIsFactory
  refine ⟨examined_states, fun strap fm c0 c1 s h0 h1 => ⟨s.startUp strap fm c0 c1, rfl, ?_⟩⟩
  rw [startUp_factory h0 h1]
  exact ⟨rfl, rfl, rfl, rfl, rfl, rfl, rfl, rfl⟩

end Sys2Proof.Machine.StartUpLaws
end

section
/-! The end of a command, once for every rule: what it leaves of the steady part, of the agent's counters and of the
flags, and that it only answers where there is room and nothing to settle (R144, R145). -/

namespace Sys2Proof.Machine.AgentLaws

open DeliveryLaws

variable {s u : State} {m : Arrival} {seq : Byte}

/-- Of the agent's counters a response moves *response-lost* at most (R145). -/
theorem respond_counters (s : State) (m : Arrival) (r : Response) :
    ∃ n, (s.respond m r).agent.counters = { s.agent.counters with responseLost := n } := by
  obtain ⟨u, grown, e⟩ := State.respond_cases (s := s) m r
  have agent : u.agent = s.agent := by obtain ⟨q, ev, rfl, -⟩ := grown; rfl
  rcases e with e | e <;> rw [e]
  · exact ⟨s.agent.counters.responseLost, by rw [agent]⟩
  · exact ⟨bump s.agent.counters.responseLost, by simp only [State.countAgent_agent, agent]⟩

theorem respond_has (r : Response) {f : Flag} (h : s.events.has f = true) : (s.respond m r).events.has f = true := by
  obtain ⟨u, grown, e | e⟩ := State.respond_cases (s := s) m r <;> rw [e]
  · exact grown.has h
  · exact grown.has h

theorem settle_agent (s : State) : s.settle.agent = s.agent := by
  obtain ⟨q, ev, e, -⟩ := s.grows_settle; rw [e]

/-- Caching a response is a matter of the session alone. -/
theorem keepResponse_session (s : State) (m : Arrival) (r : Response) :
    ∃ y, s.keepResponse m r = s.withSession y := by
  unfold State.keepResponse
  repeat' split
  · exact ⟨_, rfl⟩
  · exact ⟨s.agent.session, rfl⟩
  · exact ⟨s.agent.session, rfl⟩

theorem finish_counters (s : State) (first : Bool) (m : Arrival) (r : Response) :
    ∃ n, (s.finish first m r).settle.agent.counters = { s.agent.counters with responseLost := n } := by
  obtain ⟨y, kept⟩ := keepResponse_session s m r
  rw [settle_agent]
  unfold State.finish
  dsimp only
  rw [kept]
  split
  · obtain ⟨n, e⟩ := respond_counters (s.withSession y).settle m r
    rw [settle_agent] at e
    exact ⟨n, e⟩
  · exact respond_counters (s.withSession y) m r

theorem finish_has (first : Bool) (r : Response) {f : Flag} (h : s.events.has f = true) :
    (s.finish first m r).settle.events.has f = true := by
  obtain ⟨y, kept⟩ := keepResponse_session s m r
  refine (State.grows_settle _).has ?_
  unfold State.finish
  dsimp only
  rw [kept]
  split
  · exact respond_has r ((State.grows_settle _).has h)
  · exact respond_has r h

/-- Where nothing is to settle and the response has room, the end of a command only answers it. -/
theorem finish_room (quiet : s.Quiet) (room : s.Room m.side) (first : Bool) (r : Response) :
    (s.finish first m r).settle = s.answeredBy m r := by
  obtain ⟨y, kept⟩ := keepResponse_session s m r
  have still : (s.withSession y).settle = s.withSession y := State.settle_of_quiet quiet
  have answered : (s.withSession y).respond m r = (s.withSession y).queueResponse m r := State.respond_room room
  have settled : ((s.withSession y).queueResponse m r).settle = (s.withSession y).queueResponse m r :=
    State.settle_of_quiet quiet
  unfold State.finish State.answeredBy
  dsimp only
  rw [kept, still, ite_self, answered, settled]

/-- Beside the session an answer is the response queued. -/
theorem answeredBy_rest (s : State) (m : Arrival) (r : Response) :
    (s.answeredBy m r).rest = (s.queueResponse m r).rest := by
  obtain ⟨y, kept⟩ := keepResponse_session s m r
  unfold State.answeredBy
  rw [kept]
  rfl

/-- The event of a new command that is let through, its rule's outcome given. -/
theorem exec_new {i : Instr} {args out : Payload} {status : Status} (c : Command)
    (row : exec i s = addressed m seq args c s) (h : s.Hears m) (n : s.NewCommand m seq)
    (o : c.ownerOnly = true → s.ownedBy m.source = true) (fit : argsFit args = true)
    (run : c.run (s.delivered m) = (u, ⟨status, out⟩)) :
    exec i s = .next (u.finish c.settleFirst m ⟨seq, c.code, status, out⟩).settle := by
  rw [row, addressed_new h n o fit, run]

/-! ## OPEN (R148, R149) -/

/-- The session that OPEN makes. -/
def openedSession (m : Arrival) (seq lease : Byte) (now : CTime) : Session where
  owner := m.source
  lease := lease
  deadline := now + 1000 * lease.setWidth 32
  side := m.side
  lastSeq := seq
  cached := ⟨seq, 0x02, .ok, stationBytes m.source ++ [lease]⟩

/-- A session opened and counted. -/
def opened (m : Arrival) (seq lease : Byte) (s : State) : State :=
  (s.withSession (some (openedSession m seq lease s.now))).countAgent fun c =>
    { c with sessionsOpened := bump c.sessionsOpened }

theorem open_run {lease : Byte} (positive : lease ≠ 0) :
    (openSessionCommand m seq [lease]).run s = runOpen m seq lease s := if_neg positive

theorem runOpen_none {lease : Byte} (free : s.agent.session = none) :
    runOpen m seq lease s = (opened m seq lease s, okReply (stationBytes m.source ++ [lease])) := by
  unfold runOpen
  rw [free]
  rfl

theorem runOpen_owner {lease : Byte} {x : Session} (session : s.agent.session = some x) (own : x.owner = m.source) :
    runOpen m seq lease s =
      (s.withSession (some { x with lease := lease }), okReply (stationBytes m.source ++ [lease])) := by
  unfold runOpen
  rw [session]
  exact if_pos own

theorem runOpen_other {lease : Byte} {x : Session} (session : s.agent.session = some x) (other : x.owner ≠ m.source) :
    runOpen m seq lease s =
      (s.countAgent fun c => { c with openRefused := bump c.openRefused },
        ⟨.refusedOwned, stationBytes x.owner ++ [x.side.code]⟩) := by
  unfold runOpen
  rw [session]
  exact if_neg other

/-- Settles O37, one clause for each holder of the session. -/
theorem openGivesTheSessionToOneStation : Obligations.OpenGivesTheSessionToOneStation := by
  unfold Obligations.OpenGivesTheSessionToOneStation
  intro m seq lease s hears positive ok
  have run := open_run (m := m) (seq := seq) (s := s.delivered m) positive
  have event {u : State} {status : Status} {args : Payload} (new : s.NewCommand m seq)
      (rule : runOpen m seq lease (s.delivered m) = (u, ⟨status, args⟩)) :
      exec (.openSession m seq [lease]) s = .next (u.finish true m ⟨seq, 0x02, status, args⟩).settle :=
    exec_new (args := [lease]) (openSessionCommand m seq [lease]) rfl hears new (fun only => nomatch only) rfl
      (run.trans rule)
  refine ⟨fun free => ?_, fun x session own fresh => ?_, fun x session other quiet room => ?_⟩
  · have new : s.NewCommand m seq := fun x mem => by rw [free] at mem; cases mem
    set u := opened m seq lease (s.delivered m) with hu
    have next : exec (.openSession m seq [lease]) s = .next (u.finish true m ok).settle :=
      event new (runOpen_none (s := s.delivered m) free)
    have session : u.agent.session = some (openedSession m seq lease s.now) := rfl
    refine ⟨_, next, ?_, fun quiet room => ?_, ?_⟩
    · obtain ⟨n, counters⟩ := finish_counters u true m ok
      rw [counters]
      rfl
    · rw [finish_room (s := u) (delivered_quiet (m := m) quiet) (delivered_room (m := m) room), State.Leaves,
        answeredBy_rest]
      rfl
    · rw [State.steady_settle, finish_steady, keepResponse_owner _ session rfl, State.steady_withSession, hu, opened,
        State.steady_countAgent, State.steady_withSession, State.steady_delivered]
      rfl
  · have new : s.NewCommand m seq := fun y mem _ => by rw [session] at mem; cases mem; exact fresh
    set u := (s.delivered m).withSession (some { x with lease := lease }) with hu
    have next : exec (.openSession m seq [lease]) s = .next (u.finish true m ok).settle :=
      event new (runOpen_owner (s := s.delivered m) session own)
    refine ⟨_, next, fun unreported room => ?_, ?_⟩
    · rw [finish_room (s := u) (delivered_quiet (m := m) unreported.1) (delivered_room (m := m) room), State.Leaves,
        answeredBy_rest]
      rfl
    · rw [State.steady_settle, finish_steady, keepResponse_owner (s := u) _ rfl own, State.steady_withSession, hu,
        State.steady_withSession, State.steady_delivered]
      rfl
  · have new : s.NewCommand m seq := fun y mem own => by rw [session] at mem; cases mem; exact absurd own other
    set u := (s.delivered m).countAgent fun c => { c with openRefused := bump c.openRefused } with hu
    have foreign : ∀ y ∈ s.agent.session, y.owner ≠ m.source := fun y mem => by
      rw [session] at mem; cases mem; exact other
    rw [event new (runOpen_other (s := s.delivered m) session other),
      finish_room (s := u) (delivered_quiet (m := m) quiet) (delivered_room (m := m) room), State.answeredBy,
      keepResponse_other (s := u) _ foreign]

end Sys2Proof.Machine.AgentLaws
end

section
/-! The end of the session by CLOSE and by its lease deadline (R150, R151), a duplicate of the owner's last command
(R152) and an owner-only command of another station (R153). -/

namespace Sys2Proof.Machine.AgentLaws

open DeliveryLaws

variable {s u : State} {m : Arrival} {seq code : Byte}

/-! ## The end of the session -/

/-- The flags that the abort of an open transfer sets (R171). -/
def abortFlags (z : ShadowState) : List Flag := if z.isLoading then [.loadAborted] else []

/-- The shadow state that the abort of an open transfer leaves (R171). -/
def abortedShadow (z : ShadowState) : ShadowState := if z.isLoading then .incomplete else z

/-- Where no report can be made, the abort of a transfer is a matter of the shadow state and the one flag (R171). -/
theorem abortTransfer_unreported (h : s.agent.params.reportStation = stationNone) :
    s.abortTransfer =
      { s with
        banks := { s.banks with shadowState := abortedShadow s.banks.shadowState }
        events := (abortFlags s.banks.shadowState).foldl Events.mark s.events } := by
  unfold State.abortTransfer abortedShadow abortFlags
  cases shadow : s.banks.shadowState with
  | loading tr =>
    have marked : s.events.setFlag s.agent.params s.now .loadAborted = s.events.mark .loadAborted :=
      Events.setFlag_unreported _ _ _ _ h
    simp only [State.setFlag, State.withShadowState, marked]
    rfl
  | clean | incomplete =>
    simp only [ShadowState.isLoading, Bool.false_eq_true, if_false, List.foldl_nil, ← shadow]

/-- The end of the session changes the session, the shadow state and, where no report can be made, the one flag. -/
theorem endSession_unreported (h : s.agent.params.reportStation = stationNone) :
    s.endSession =
      { s with
        banks := { s.banks with shadowState := abortedShadow s.banks.shadowState }
        agent := { s.agent with session := none }
        events := (abortFlags s.banks.shadowState).foldl Events.mark s.events } := by
  unfold State.endSession
  rw [abortTransfer_unreported h]
  rfl

theorem endSession_steady (s : State) :
    s.endSession.steady =
      { s.steady with session := none, shadowState := abortedShadow s.banks.shadowState } := by
  unfold State.endSession abortedShadow
  rw [State.steady_withSession, State.steady_abortTransfer]

theorem endSession_has (h : s.banks.shadowState.isLoading = true) : s.endSession.events.has .loadAborted = true :=
  s.has_abortTransfer h

/-- The abort of a transfer leaves the agent. -/
theorem endSession_counters (s : State) : s.endSession.agent.counters = s.agent.counters := by
  unfold State.endSession State.abortTransfer
  split <;> rfl

/-- Marked flags make no report. -/
theorem foldl_mark_reports (flags : List Flag) (ev : Events) : (flags.foldl Events.mark ev).reports = ev.reports := by
  induction flags generalizing ev with
  | nil => rfl
  | cons f flags ih => exact ih _

/-- The session closed and counted (R150). -/
def closed (s : State) : State := s.endSession.countAgent fun c => { c with closes := bump c.closes }

/-- The session ended by its lease and counted, before LEASE_EXPIRED is set (R151). -/
def lapsed (s : State) : State := s.endSession.countAgent fun c => { c with leaseExpiries := bump c.leaseExpiries }

/-- Settles O38: both ends are the end of the session, counted. -/
theorem sessionsEnd : Obligations.SessionsEnd := by
  unfold Obligations.SessionsEnd
  refine ⟨fun m seq x s hears => ?_, fun x s running session past => ?_⟩
  · obtain ⟨new, owned⟩ := HearsOwner.lets hears
    set u := closed (s.delivered m) with hu
    have next : exec (.closeSession m seq []) s = .next (u.finish true m ⟨seq, 0x03, .ok, []⟩).settle :=
      exec_new (args := []) (closeCommand []) rfl hears.1 new (fun _ => owned) rfl rfl
    have foreign : ∀ y ∈ u.agent.session, y.owner ≠ m.source := fun y mem => nomatch mem
    refine ⟨_, next, ?_, fun loading => ?_, fun unreported room => ?_, ?_⟩
    · obtain ⟨n, counters⟩ := finish_counters u true m ⟨seq, 0x03, .ok, []⟩
      have counted : u.agent.counters.closes = bump (s.delivered m).agent.counters.closes :=
        congrArg (fun c : AgentCounters => bump c.closes) (endSession_counters (s.delivered m))
      rw [counters]
      exact counted
    · exact finish_has true _ (endSession_has (s := s.delivered m) loading)
    · have ended := endSession_unreported (s := s.delivered m) unreported.2
      have quiet : u.Quiet := by
        refine (State.quiet_congr ?_).2 unreported.1
        rw [hu, closed, ended]
        exact foldl_mark_reports _ _
      have roomy : u.Room m.side := by
        rw [hu, closed, ended]
        exact delivered_room (m := m) room
      rw [finish_room quiet roomy, State.Leaves, answeredBy_rest, hu, closed, ended]
      rfl
    · rw [State.steady_settle, finish_steady, keepResponse_other _ foreign, hu, closed, State.steady_countAgent,
        endSession_steady, State.steady_delivered]
      rfl
  · have expired : s.expireLease = (lapsed s).setFlag .leaseExpired := by
      unfold State.expireLease
      rw [session]
      exact if_pos past
    have next : exec .leaseDeadline s = .next ((lapsed s).setFlag .leaseExpired).settle := by
      change Host.Outcome.next (s.event State.expireLease) = _
      rw [event_running running, expired]
    refine ⟨_, next, settle_has _ _, fun loading => ?_, ?_, fun unreported => ?_, ?_⟩
    · refine (State.grows_settle _).has ((State.grows_setFlag _ _).has ?_)
      exact endSession_has loading
    · rw [settle_agent]
      exact congrArg (fun c : AgentCounters => bump c.leaseExpiries) (endSession_counters s)
    · have ended := endSession_unreported (s := s) unreported.2
      have still : (lapsed s).Unreported := by
        refine ⟨(State.quiet_congr ?_).2 unreported.1, ?_⟩
        · rw [lapsed, ended]
          exact foldl_mark_reports _ _
        · rw [lapsed, ended]
          exact unreported.2
      rw [settle_mark still, lapsed, ended]
      unfold State.Leaves abortFlags
      split <;> rfl
    · rw [State.steady_settle, State.steady_setFlag, lapsed, State.steady_countAgent, endSession_steady]
      rfl

/-! ## Duplicates (R144 step 1, R152) -/

/-- A command with the owner's last sequence number is answered from the cache, whatever it is. -/
theorem take_duplicate {x : Session} (c : Command) (session : s.agent.session = some x) (own : x.owner = m.source)
    (last : x.lastSeq = seq) :
    State.take m seq c (s.handed m) = (s.delivered m).answerDuplicate m x.cached := by
  have found : (s.handed m).duplicateOf m seq = some x.cached := by
    have kept : (s.handed m).agent.session = some x := session
    unfold State.duplicateOf
    rw [kept]
    exact if_pos ⟨own, last⟩
  unfold State.take
  rw [found]
  rfl

/-- The lease renewed and the duplicate counted, before the cached response is sent again. -/
def renewedBy (m : Arrival) (s : State) : State :=
  (s.withSession (s.agent.session.map (Session.renew s.now m.side))).countAgent fun c =>
    { c with duplicates := bump c.duplicates }

/-- Settles O39: a duplicate is taken before the command's rule is looked at. -/
theorem duplicatesAreNotExecuted : Obligations.DuplicatesAreNotExecuted := by
  unfold Obligations.DuplicatesAreNotExecuted
  intro i m seq code x s w c hears session own last
  obtain ⟨fit, row⟩ := CommandRows.command_row w c
  set u := renewedBy m (s.delivered m) with hu
  have next : exec i s = .next (u.respond m x.cached).settle := by
    rw [row, addressed, fit, arrival_heard hears, take_duplicate _ session own last]
    rfl
  refine ⟨⟨_, next, ?_, ?_⟩, fun quiet room => ⟨_, next, ?_⟩⟩
  · obtain ⟨n, counters⟩ := respond_counters u m x.cached
    rw [settle_agent, counters]
    rfl
  · have kept : (s.delivered m).agent.session = some x := session
    rw [State.steady_settle, State.steady_respond, hu, renewedBy, State.steady_countAgent, State.steady_withSession,
      State.steady_delivered, kept]
    rfl
  · have answered : u.respond m x.cached = u.queueResponse m x.cached :=
      State.respond_room (delivered_room (m := m) room)
    have settled : (u.queueResponse m x.cached).settle = u.queueResponse m x.cached :=
      State.settle_of_quiet (delivered_quiet (m := m) quiet)
    rw [answered, settled]
    rfl

/-! ## Strangers (R144 step 3, R153) -/

/-- The refusal of every owner-only command, LOAD_PART apart, is bare. -/
theorem commandFor_refuses (m : Arrival) (seq : Byte) (args : Payload) (other : code ≠ 0x0D) (u : State) :
    (commandFor m seq code args).refuse u = (u, bareReply .refusedNotOwner) := by
  unfold commandFor
  split
  case h_13 e => exact absurd (CommandRows.eq_of_toNat e) other
  all_goals rfl

/-- Every refusal takes free bytes at most (R165, log entry 2). -/
theorem commandFor_refuse_free (m : Arrival) (seq code : Byte) (args : Payload) (u : State) :
    ∃ n, ((commandFor m seq code args).refuse u).1 = { u with free := n } := by
  by_cases part : code = 0x0D
  · subst part
    cases args with
    | nil => exact ⟨u.free + 1, rfl⟩
    | cons b args => exact ⟨u.free, rfl⟩
  · exact ⟨u.free, by rw [commandFor_refuses m seq args part u]⟩

/-- A refusal counted. -/
def refusedBy (s : State) : State := s.countAgent fun c => { c with refusedNotOwner := bump c.refusedNotOwner }

/-- A stranger's command is no duplicate. -/
theorem duplicateOf_none (stranger : ∀ x ∈ s.agent.session, x.owner ≠ m.source) : s.duplicateOf m seq = none := by
  unfold State.duplicateOf
  split
  · next x session => exact if_neg fun ⟨own, _⟩ => stranger x session own
  · rfl

theorem ownedBy_false (stranger : ∀ x ∈ s.agent.session, x.owner ≠ m.source) : s.ownedBy m.source = false := by
  unfold State.ownedBy
  split
  · next x session => simpa using stranger x session
  · rfl

/-- An owner-only command of a station that is not the owner is refused before its rule is looked at. -/
theorem take_stranger {c : Command} (only : c.ownerOnly = true) (stranger : ∀ x ∈ s.agent.session, x.owner ≠ m.source) :
    State.take m seq c (s.handed m) =
      (c.refuse (refusedBy (s.delivered m))).1.finish c.settleFirst m
        ⟨seq, c.code, (c.refuse (refusedBy (s.delivered m))).2.status,
          (c.refuse (refusedBy (s.delivered m))).2.args⟩ := by
  have decided : (s.handed m).countCommand.decideCommand m c = c.refuse (refusedBy (s.delivered m)) := by
    unfold State.decideCommand
    rw [only, ownedBy_false (s := (s.handed m).countCommand) stranger]
    rfl
  unfold State.take
  rw [duplicateOf_none (s := s.handed m) stranger]
  dsimp only
  rw [decided]

/-- Settles O40: the refusal stands before the command's rule, and nothing is cached for a stranger. -/
theorem strangersAreRefused : Obligations.StrangersAreRefused := by
  unfold Obligations.StrangersAreRefused
  intro i m seq code s w c mem hears stranger
  obtain ⟨fit, row⟩ := CommandRows.command_row w c
  obtain ⟨same, owner⟩ := CommandRows.commandFor_head m seq code i.args
  have only : (commandFor m seq code i.args).ownerOnly = true := by rw [owner]; exact decide_eq_true mem
  have refuses := commandFor_refuses (code := code) m seq i.args
  obtain ⟨n, free⟩ := commandFor_refuse_free m seq code i.args (refusedBy (s.delivered m))
  set rule := commandFor m seq code i.args
  set v := (rule.refuse (refusedBy (s.delivered m))).1
  set r : Response := ⟨seq, rule.code, (rule.refuse (refusedBy (s.delivered m))).2.status,
    (rule.refuse (refusedBy (s.delivered m))).2.args⟩ with hr
  have next : exec i s = .next (v.finish rule.settleFirst m r).settle := by
    rw [row, addressed, fit, arrival_heard hears, take_stranger only stranger]
  refine ⟨_, next, ?_, ?_, fun quiet room other => ?_⟩
  · have foreign : ∀ x ∈ v.agent.session, x.owner ≠ m.source := by rw [free]; exact stranger
    rw [State.steady_settle, finish_steady, keepResponse_other _ foreign, free, ← State.steady_delivered s m]
    rfl
  · obtain ⟨k, counters⟩ := finish_counters v rule.settleFirst m r
    rw [counters, free]
    rfl
  · have bare := refuses other (refusedBy (s.delivered m))
    have quiet1 : v.Quiet := by rw [free]; exact delivered_quiet (m := m) quiet
    have room1 : v.Room m.side := by rw [free]; exact delivered_room (m := m) room
    rw [finish_room quiet1 room1, State.Leaves, answeredBy_rest, hr, same]
    simp only [v, bare]
    rfl

end Sys2Proof.Machine.AgentLaws
end

section
/-! The reads of the agent, the ports, the trip unit and the event unit (R155, R157 to R159, R185): each answers the
bytes of its table and changes nothing but free bytes. -/

namespace Sys2Proof.Machine.ReadLaws

open DeliveryLaws

variable {u s : State} {m : Arrival}

/-! ## The agent -/

theorem ownerStation_eq (x : Option Session) : ownerStation x = x.elim 4095 Session.owner := by cases x <;> rfl

/-- IDENTIFY (R157, Table 12-12). -/
theorem identify_run (u : State) :
    (identifyCommand []).run u =
      (u, okReply ([0x04, 0x12, 0x01] ++ stationBytes u.agent.params.ownStation ++
        [u.image.strap.setWidth 8,
          0#4 ++ BitVec.ofBool u.agent.session.isSome ++ BitVec.ofBool (u.image.loaded == some .one) ++
            BitVec.ofBool u.image.loaded.isNone ++ BitVec.ofBool u.image.failmodeHigh] ++
        stationBytes (u.agent.session.elim 4095 Session.owner) ++ be32 u.now)) := by
  rw [← ownerStation_eq]
  rfl

/-- What an owner's GENERAL shows of the session: as it stands, or as its own renewal leaves it (log entry 3). -/
theorem shownSession_cases (m : Arrival) (u : State) :
    u.shownSession m = u.agent.session ∨
      ∃ x, u.agent.session = some x ∧ x.owner = m.source ∧ u.shownSession m = some (x.renew u.now m.side) := by
  unfold State.shownSession
  split
  · next shown =>
    simp only [Bool.and_eq_true] at shown
    obtain ⟨-, owned⟩ := shown
    unfold State.ownedBy at owned
    split at owned
    · next x session => exact .inr ⟨x, session, by simpa using owned, by rw [session]; rfl⟩
    · cases owned
  · exact .inl rfl

/-- The section GENERAL of READ_STATUS (R158, Table 12-12). -/
theorem status_general (m : Arrival) (u : State) :
    (statusCommand m [0]).run u =
      (u, okReply (be32 u.now ++
        [if (u.shownSession m).isSome then 3 else 0, u.banks.shadowState.code,
          if u.image.store.isSome then 1 else 0] ++
        stationBytes ((u.shownSession m).elim 4095 Session.owner) ++
        be32 ((u.shownSession m).elim 0xFFFFFFFF#32 Session.deadline) ++
        [(u.shownSession m).elim 0xFF fun x => x.side.code,
          countByte (48 - (u.queues.frames.a.length + u.queues.frames.b.length)), u.trip.state.code,
          if u.trip.isol then 1 else 0,
          0#4 ++ BitVec.ofBool (u.events.raised .guard) ++ BitVec.ofBool (u.events.raised .traffic) ++
            BitVec.ofBool (u.events.raised .table) ++ BitVec.ofBool (u.events.raised .port)])) := by
  have run : (statusCommand m [0]).run u = (u, okReply (u.statusGeneral m)) := rfl
  rw [run, State.statusGeneral]
  cases u.shownSession m with
  | none => rfl
  | some x =>
    have both : presenceByte true true = 3 := by decide
    dsimp only [Option.isSome]
    rw [both]
    rfl

/-- A section of READ_STATUS for one side (R94, R117, Table 12-12). -/
theorem status_side (m : Arrival) (u : State) (side : Side) :
    (statusCommand m [1 + side.code]).run u =
      (u, okReply (be32 u.now ++
        [0#6 ++ BitVec.ofBool ((u.queues.frames.get side).find? (·.onLine)).isSome ++
            BitVec.ofBool (u.ports.get side).recovery.isSome,
          (u.ports.get side).state.code, countByte (u.ports.get side).score] ++
        be32 ((u.ports.get side).recovery.getD 0xFFFFFFFF#32) ++ [countByte (u.queues.frames.get side).length] ++
        (((u.queues.frames.get side).find? (·.onLine)).elim [0, 0, 0] fun y =>
          [y.frame.cls.setWidth 8, countByte y.attempts, y.mark.code]))) := by
  have run : (statusCommand m [1 + side.code]).run u = (u, okReply (u.statusSide side)) := by cases side <;> rfl
  rw [run, State.statusSide]
  dsimp only [onLineFrame]
  cases (u.queues.frames.get side).find? (·.onLine) <;> rfl

/-- The section TRIP of READ_STATUS (R142, Table 12-12). -/
theorem status_trip (m : Arrival) (u : State) :
    (statusCommand m [3]).run u =
      (u, okReply (be32 u.now ++
        [0#6 ++ BitVec.ofBool u.trip.last.isSome ++ BitVec.ofBool u.trip.deadline.isSome, u.trip.state.code,
          u.trip.asserted.setWidth 8] ++
        be32 (u.trip.deadline.getD 0xFFFFFFFF#32) ++
        (u.trip.last.elim [0, 0, 0, 0, 0, 0, 0, 0, 0] fun r =>
          be32 r.time ++ [countByte r.source.val, r.side.code] ++ tagBytes r.tag))) := by
  have run : (statusCommand m [3]).run u = (u, okReply u.statusTrip) := rfl
  rw [run, State.statusTrip]
  cases u.trip.last <;> rfl

/-- Four counters of a set (R159, Table 12-11). -/
theorem readCounters_run {set first : Byte} {cs : List Counter} (found : u.counterSet set = some cs)
    (inside : first.toNat < cs.length) :
    (readCountersCommand [set, first]).run u =
      (u, okReply ([set, first] ++ ((cs.drop first.toNat).take 4).flatMap be32)) := by
  simp only [readCountersCommand, openCommand, found, if_pos inside]

/-- A parameter read (R155). -/
theorem readConfig_param {item : Byte} {i : ParamId} (name : ParamId.ofCode item = some i) :
    (readConfigCommand [item]).run u = (u, okReply (item :: be16 (u.agent.params.value i))) := by
  have param : item ≠ 0xFF := by rintro rfl; cases name
  simp only [readConfigCommand, openCommand, if_neg param, name]

/-- The trip configuration read: the value and mask of an undefined source are free (log entry 2). -/
theorem readConfig_trip (u : State) :
    (readConfigCommand [0xFF]).run u =
      ({ u with free := u.free + 8 }, okReply (0xFF :: u.trip.config.bytes (u.takeFree 8).2)) := rfl

/-- The bytes of a trip source: three, the offset FFh for an undefined one, else its definition. -/
theorem tripSourceBytes_fields (x : Option TripSource) {free : Payload} (two : free.length = 2) :
    (tripSourceBytes x free).length = 3 ∧ (x = none → (tripSourceBytes x free).head? = some 0xFF) ∧
      ∀ src, x = some src → tripSourceBytes x free = [countByte src.offset, src.value, src.mask] := by
  cases x with
  | none => exact ⟨congrArg Nat.succ two, fun _ => rfl, fun _ e => (nomatch e)⟩
  | some src => exact ⟨rfl, fun e => (nomatch e), fun _ e => by cases e; rfl⟩

/-! ## The event unit -/

theorem boolByte_raised (ev : Events) (g : Group) :
    boolByte (ev.raised g) = if ev.flags.get g &&& ev.enables.get g = 0 then 0 else 1 := by
  unfold boolByte Events.raised
  by_cases clear : ev.flags.get g &&& ev.enables.get g = 0 <;> simp [clear]

/-- A group read (R185, Table 12-11). -/
theorem readEvents_group (u : State) (g : Group) (position : Byte) :
    (readEventsCommand [g.code, position]).run u =
      (u, okReply ([g.code] ++ be16 (u.events.flags.get g) ++ be16 (u.events.enables.get g) ++
        [if u.events.flags.get g &&& u.events.enables.get g = 0 then 0 else 1,
          countByte (u.agent.params.levels.get g)])) := by
  have run : (readEventsCommand [g.code, position]).run u = (u, okReply (u.groupReadout g)) := by cases g <;> rfl
  rw [run, State.groupReadout, boolByte_raised]

/-- A page of the report list read (R185, Table 12-11). -/
theorem readEvents_list (u : State) {position : Byte} (small : position.toNat ≤ 7) :
    (readEventsCommand [4, position]).run u =
      (u, okReply ([countByte u.events.reports.length, u.events.nextSeq] ++ be32 u.now ++ [position] ++
        (u.events.reports[position.toNat]?.elim [] fun r =>
          [r.seq, BitVec.ofBool r.outstanding ++ BitVec.ofNat 3 r.sends ++ 0#2 ++ r.group.code.extractLsb' 0 2,
            countByte r.level] ++
            be16 r.snapshot ++ be32 r.time ++
            be32 (if r.outstanding then r.retry.getD 0xFFFFFFFF#32 else 0xFFFFFFFF#32)))) := by
  have run : (readEventsCommand [4, position]).run u = (u, okReply (u.listReadout position)) := if_pos ⟨rfl, small⟩
  rw [run, State.listReadout]
  cases u.events.reports[position.toNat]? with
  | none => rfl
  | some r =>
    dsimp only [Option.elim, Report.bytes, deadlineBytes]
    cases r.outstanding <;> rfl

/-! ## The answers -/

/-- What a read shows of a port is not changed by the read's delivery. -/
theorem status_side_delivered (s : State) (m : Arrival) (side : Side) :
    ((s.delivered m).ports.get side).recovery = (s.ports.get side).recovery ∧
      ((s.delivered m).ports.get side).state = (s.ports.get side).state ∧
      ((s.delivered m).ports.get side).score = (s.ports.get side).score := by
  obtain ⟨view, -⟩ := SideLaws.delivered_port s m side
  exact ⟨congrArg PortView.recovery view, congrArg PortView.state view, congrArg PortView.score view⟩

/-- Settles O42: each read changes nothing but free bytes, by the laws of the reads above. -/
theorem readsOfTheUnitsAreAnswered : Obligations.ReadsOfTheUnitsAreAnswered := by
  unfold Obligations.ReadsOfTheUnitsAreAnswered
  rintro m seq s d hears quiet room new rfl
  have ready (code : Byte) (anyone : code ∉ ownerCodes) : Ready s m seq code :=
    ⟨hears, quiet, room, new, fun only => absurd only anyone⟩
  have status := ready 0x04 (by decide)
  have config := ready 0x15 (by decide)
  have events := ready 0x18 (by decide)
  refine ⟨?_, ⟨(s.delivered m).shownSession m, ?_, ?_⟩, fun side => ?_, ?_, ?_, ?_, ?_, ?_, ?_⟩
  · exact exec_same (ready 0x01 (by decide)) (.identify m false seq []) rfl rfl _ rfl (identify_run (s.delivered m))
  · rcases shownSession_cases m (s.delivered m) with e | ⟨x, session, own, e⟩
    · exact .inl e
    · exact .inr ⟨x, session, own, e⟩
  · exact exec_same status (.readStatus m seq [0]) rfl rfl _ rfl (status_general m (s.delivered m))
  · have read := exec_same status (.readStatus m seq [1 + side.code]) rfl rfl _ rfl (status_side m (s.delivered m) side)
    obtain ⟨recovery, state, score⟩ := status_side_delivered s m side
    rw [recovery, state, score] at read
    exact read
  · exact exec_same status (.readStatus m seq [3]) rfl rfl _ rfl (status_trip m (s.delivered m))
  · intro set first cs found inside
    exact exec_same (ready 0x05 (by decide)) (.readCounters m seq [set, first]) rfl rfl _ rfl
      (readCounters_run found inside)
  · intro item i name
    exact exec_same config (.readConfig m seq [item]) rfl rfl _ rfl (readConfig_param (u := s.delivered m) name)
  · set free := ((s.delivered m).takeFree 8).2
    refine ⟨_, #v[tripSourceBytes s.trip.config.sources[0] (free.take 2),
      tripSourceBytes s.trip.config.sources[1] ((free.drop 2).take 2),
      tripSourceBytes s.trip.config.sources[2] ((free.drop 4).take 2),
      tripSourceBytes s.trip.config.sources[3] ((free.drop 6).take 2)],
      exec_free config (.readConfig m seq [0xFF]) rfl rfl _ rfl (readConfig_trip (s.delivered m)), fun k => ?_⟩
    have eight : free.length = 8 := PayloadLaws.takeFree_length 8 _
    match k with
    | 0 => exact tripSourceBytes_fields _ (by simp [eight])
    | 1 => exact tripSourceBytes_fields _ (by simp [eight])
    | 2 => exact tripSourceBytes_fields _ (by simp [eight])
    | 3 => exact tripSourceBytes_fields _ (by simp [eight])
  · intro g position
    exact exec_same events (.readEvents m seq [g.code, position]) rfl rfl _ rfl
      (readEvents_group (s.delivered m) g position)
  · intro position small
    exact exec_same events (.readEvents m seq [4, position]) rfl rfl _ rfl (readEvents_list (s.delivered m) small)

end Sys2Proof.Machine.ReadLaws
end

section
/-! RESTART (R161, Table 8-9): the coupler's work emptied at once, and what the response and the reports then bring into
the empty queues. -/

namespace Sys2Proof.Machine.RestartLaws

open DeliveryLaws AgentLaws

variable {s t u : State} {m : Arrival}

/-! ## The effect of RESTART -/

/-- A port after RESTART (R113). -/
def idlePort (p : Port) : Port := (EgressLaws.aborted p).restarted

/-- The counters of a queue purged of `n` frames by RESTART (R92). -/
def purgedOf (n : Nat) (c : QueueCounters) : QueueCounters := { c with purgedRestart := satAdd c.purgedRestart n }

/-- The coupler's work emptied, before the abort of an open transfer (Table 8-9). -/
def emptied (s : State) : State :=
  { s with
    queues := ⟨⟨[], []⟩, ⟨purgedOf s.queues.frames.a.length s.queues.counters.a,
      purgedOf s.queues.frames.b.length s.queues.counters.b⟩⟩
    ports := ⟨idlePort s.ports.a, idlePort s.ports.b⟩
    tags := { s.tags with records := Vector.replicate 48 none }
    proxy := { s.proxy with list := [] }
    events := { s.events with reports := s.events.reports.map (Report.restarted s.now) } }

theorem restartSide_eq (s : State) (side : Side) :
    s.restartSide side =
      { s with
        queues := ⟨s.queues.frames.modify side fun _ => [],
          s.queues.counters.modify side (purgedOf (s.queues.frames.get side).length)⟩
        ports := s.ports.modify side idlePort } := by
  unfold State.restartSide
  rw [EgressLaws.abortAttempt_eq]
  simp only [State.onPort, State.purge, State.onQueue, State.countQueue, PerSide.modify_modify]
  rfl

theorem restartAll_eq (s : State) : s.restartAll = (emptied s).abortTransfer := by
  unfold State.restartAll
  rw [restartSide_eq s, restartSide_eq]
  exact congrArg State.abortTransfer rfl

theorem restart_run (idle : s.image.store = none) : (restartCommand []).run s = (s.restartAll, ⟨.ok, []⟩) := by
  have run : (restartCommand []).run s = runRestart s := rfl
  rw [run, runRestart, idle]
  rfl

/-- The abort of a transfer leaves the time, the queues, the ports and the agent. -/
theorem abortTransfer_rest (s : State) :
    s.abortTransfer.now = s.now ∧ s.abortTransfer.queues = s.queues ∧ s.abortTransfer.ports = s.ports ∧
      s.abortTransfer.agent = s.agent := by
  unfold State.abortTransfer
  split <;> exact ⟨rfl, rfl, rfl, rfl⟩

theorem emptied_frames (s : State) (side : Side) : (emptied s).queues.frames.get side = [] := by cases side <;> rfl

theorem emptied_purged (s : State) (side : Side) :
    ((emptied s).queues.counters.get side).purgedRestart =
      satAdd (s.queues.counters.get side).purgedRestart (s.queues.frames.get side).length := by cases side <;> rfl

/-- A side that is not OFF takes frames after RESTART. -/
theorem emptied_accepts {side : Side} (on : (s.ports.get side).state ≠ .off) :
    ((emptied s).ports.get side).state.accepts = true := by
  have port : (emptied s).ports.get side = idlePort (s.ports.get side) := by cases side <;> rfl
  have active : (idlePort (s.ports.get side)).state = .active := if_neg on
  rw [port, active]
  rfl

/-! ## What enters the empty queues -/

/-- Frames queued at `now`, none of them on the line and none of them traffic. -/
def Fresh (now : CTime) (q : List QFrame) : Prop :=
  ∀ y ∈ q, y.onLine = false ∧ y.queueTime = now ∧ y.frame.traffic = false

/-- From `s` to `t` fresh frames were queued at most, and none counted *purged-restart*. -/
structure Adds (s t : State) : Prop where
  now : t.now = s.now
  fresh : ∀ side, Fresh s.now (s.queues.frames.get side) → Fresh s.now (t.queues.frames.get side)
  count : ∀ side, (t.queues.counters.get side).purgedRestart = (s.queues.counters.get side).purgedRestart

theorem Adds.trans (h : Adds s t) (k : Adds t u) : Adds s u where
  now := k.now.trans h.now
  fresh side f := h.now ▸ k.fresh side (h.now.symm ▸ h.fresh side f)
  count side := (k.count side).trans (h.count side)

theorem Adds.same (now : t.now = s.now) (queues : t.queues = s.queues) : Adds s t where
  now := now
  fresh side f := by rw [queues]; exact f
  count side := by rw [queues]

theorem adds_countQueue {side : Side} {f : QueueCounters → QueueCounters}
    (keeps : ∀ c, (f c).purgedRestart = c.purgedRestart) : Adds s (s.countQueue side f) where
  now := rfl
  fresh _ f := f
  count side' := by
    simp only [State.countQueue_queues, PerSide.get_modify_at]
    split
    · exact keeps _
    · rfl

theorem adds_onQueue {side : Side} {f : List QFrame → List QFrame}
    (keeps : Fresh s.now (s.queues.frames.get side) → Fresh s.now (f (s.queues.frames.get side))) :
    Adds s (s.onQueue side f) where
  now := rfl
  fresh side' fresh := by
    simp only [State.onQueue_queues, PerSide.get_modify_at]
    split
    · next same => subst same; exact keeps fresh
    · exact fresh
  count _ := rfl

theorem adds_enqueue (side : Side) {f : Frame} (plain : f.traffic = false) : Adds s (s.enqueue side f) := by
  refine (adds_onQueue (side := side) fun fresh y mem => ?_).trans (adds_countQueue fun _ => rfl)
  rcases mem_insertFrame.1 mem with rfl | old
  · exact ⟨rfl, rfl, plain⟩
  · exact fresh y old

/-- Whatever admission decides of a frame that is not traffic (R75 to R77). -/
theorem adds_admit (side : Side) {f : Frame} (plain : f.traffic = false) : Adds s (s.admitFrame side f).1 := by
  have flagged (v : State) (g : Flag) : Adds v (v.setFlag g) := .same rfl rfl
  unfold State.admitFrame
  repeat' split
  · exact adds_countQueue fun _ => rfl
  · exact adds_countQueue fun _ => rfl
  · exact adds_enqueue side plain
  · next i _ =>
    have erased : Adds s (s.onQueue side (·.eraseIdx i)) :=
      adds_onQueue fun fresh y mem => fresh y (List.mem_of_mem_eraseIdx mem)
    have counted := erased.trans
      (adds_countQueue (side := side) (f := fun c => { c with displaced := bump c.displaced }) fun _ => rfl)
    exact (counted.trans (adds_enqueue side plain)).trans (flagged _ _)
  · exact (adds_countQueue (f := fun c => { c with poolFull := bump c.poolFull }) fun _ => rfl).trans (flagged _ _)
  · exact adds_countQueue fun _ => rfl

theorem adds_respond (s : State) (m : Arrival) (r : Response) : Adds s (s.respond m r) := by
  have admitted : Adds s (s.admitFrame m.side (responseFrame s.agent.params m.source r)).1 := adds_admit m.side rfl
  unfold State.respond
  split
  · next eq => rw [eq] at admitted; exact admitted
  · next eq => rw [eq] at admitted; exact admitted.trans (.same rfl rfl)

theorem adds_settle (s : State) : Adds s s.settle := by
  have sent : ∀ v : State, Adds v v.sendDue := by
    intro v
    unfold State.sendDue
    repeat' split
    · exact .same rfl rfl
    · exact .same rfl rfl
    · exact (adds_admit _ rfl).trans (.same rfl rfl)
    · exact .same rfl rfl
  have fixed : ∀ v : State, Adds v v.fixSnapshots := fun _ => .same rfl rfl
  exact ((fixed s).trans (sent _)).trans (fixed _)

theorem adds_finish (s : State) (m : Arrival) (r : Response) : Adds s (s.finish false m r).settle := by
  obtain ⟨y, kept⟩ := keepResponse_session s m r
  have session : Adds s (s.keepResponse m r) := by rw [kept]; exact .same rfl rfl
  exact (session.trans (adds_respond _ m r)).trans (adds_settle _)

/-! ## The response on the emptied queue -/

/-- Into empty queues a response is queued or refused at the ceiling: neither touches the other queue or the event
unit. -/
theorem respond_empty (accepts : (s.ports.get m.side).state.accepts = true)
    (empty : ∀ side, s.queues.frames.get side = []) (r : Response) :
    (s.respond m r).queues.frames.get m.side.far = [] ∧ (s.respond m r).events = s.events := by
  have free : s.queues.free ≠ 0 := by
    have a : s.queues.frames.a = [] := empty .a
    have b : s.queues.frames.b = [] := empty .b
    simp [Queues.free, a, b, Config.poolSlots]
  set f := responseFrame s.agent.params m.source r with hf
  have passes : QueueLaws.Passes s m.side f := ⟨accepts, .inr rfl⟩
  unfold State.respond
  cases room : s.roomToward m.side with
  | true =>
    have queued : s.admitFrame m.side f = (s.enqueue m.side f, .queued) := by
      unfold State.admitFrame
      rw [if_neg (by simp [accepts]), if_neg passes.not_isolated, if_pos room]
    rw [← hf, queued]
    exact ⟨by simpa [State.enqueue] using empty m.side.far, rfl⟩
  | false =>
    have none_waits : displaceable f.cls (s.queues.frames.get m.side) = none := by
      rw [QueueLaws.displaceable_none, empty]
      exact fun y mem => nomatch mem
    rw [← hf, QueueLaws.admit_full passes room none_waits, if_neg free]
    exact ⟨by simpa using empty m.side.far, rfl⟩

/-- With empty queues and nothing to settle, the end of RESTART queues nothing away from its sender and leaves the event
unit. -/
theorem finish_empty (accepts : (s.ports.get m.side).state.accepts = true)
    (empty : ∀ side, s.queues.frames.get side = []) (quiet : s.Quiet) (r : Response) :
    (s.finish false m r).settle.queues.frames.get m.side.far = [] ∧
      (s.finish false m r).settle.events = s.events := by
  obtain ⟨y, kept⟩ := keepResponse_session s m r
  have finished : s.finish false m r = (s.withSession y).respond m r := by rw [← kept]; rfl
  obtain ⟨far, events⟩ := respond_empty (s := s.withSession y) (m := m) accepts empty r
  have still : ((s.withSession y).respond m r).Quiet := (State.quiet_congr (by rw [events]; rfl)).2 quiet
  rw [finished, State.settle_of_quiet still]
  exact ⟨far, events⟩

/-- The restart of the retry interval leaves nothing to settle. -/
theorem restarted_quiet (quiet : s.Quiet) (now : CTime) :
    ∀ r ∈ s.events.reports.map (Report.restarted now),
      r.making = false ∧ (r.outstanding = true → r.retry.isSome) := by
  intro r mem
  obtain ⟨r, old, rfl⟩ := List.mem_map.1 mem
  obtain ⟨made, timed⟩ := quiet r old
  unfold Report.restarted
  split
  · exact ⟨made, fun _ => rfl⟩
  · exact ⟨made, timed⟩

/-- The flags of an abort change no enable, no counter and no other flag. -/
theorem foldl_abortFlags (z : ShadowState) (ev : Events) :
    ((abortFlags z).foldl Events.mark ev).enables = ev.enables ∧
      ((abortFlags z).foldl Events.mark ev).counters = ev.counters ∧
      ∀ f, f ≠ .loadAborted ∨ z.isLoading = false → ((abortFlags z).foldl Events.mark ev).has f = ev.has f := by
  unfold abortFlags
  split
  · next loading =>
    refine ⟨rfl, rfl, fun f other => ?_⟩
    have differs : f ≠ .loadAborted := other.resolve_right (by simp [loading])
    simp [Events.has_mark, differs]
  · exact ⟨rfl, rfl, fun _ _ => rfl⟩

/-- Settles O47: the effect empties the queues, and what follows brings in fresh frames alone. -/
theorem restartKeepsTheConfiguration : Obligations.RestartKeepsTheConfiguration := by
  unfold Obligations.RestartKeepsTheConfiguration
  intro m seq x s hears idle restarted
  obtain ⟨new, owned⟩ := HearsOwner.lets hears
  obtain ⟨heard, session, own, -⟩ := hears
  have ⟨⟨_, _, on⟩, _⟩ := heard
  set d := s.delivered m
  set u := d.restartAll with hu
  set r : Response := ⟨seq, 0x1C, .ok, []⟩
  have started : u = (emptied d).abortTransfer := restartAll_eq d
  obtain ⟨now, queues, ports, agent⟩ := abortTransfer_rest (emptied d)
  rw [← started] at now queues ports agent
  have next : exec (.restart m seq []) s = .next (u.finish false m r).settle :=
    exec_new (args := []) (restartCommand []) rfl heard new (fun _ => owned) rfl (restart_run (s := d) idle)
  have empty (side : Side) : u.queues.frames.get side = [] := by rw [queues]; exact emptied_frames d side
  have adds := adds_finish u m r
  refine ⟨_, next, fun loading => ?_, fun side y mem => ?_, fun side => ?_, fun unreported => ?_, ?_⟩
  · refine finish_has false r ?_
    rw [started]
    exact (emptied d).has_abortTransfer loading
  · have none_queued : Fresh u.now (u.queues.frames.get side) := by rw [empty]; exact fun y mem => nomatch mem
    have fresh := adds.fresh side none_queued
    rw [now] at fresh
    exact fresh y mem
  · rw [adds.count side, queues]
    exact emptied_purged d side
  · have accepts : (u.ports.get m.side).state.accepts = true := by
      have view := (SideLaws.delivered_port s m m.side).1
      rw [ports]
      exact emptied_accepts fun off => on ((congrArg PortView.state view).symm.trans off)
    have ended : u.events = (abortFlags s.banks.shadowState).foldl Events.mark (emptied d).events := by
      rw [started, abortTransfer_unreported (s := emptied d) unreported.2]
      rfl
    have reports : u.events.reports = s.events.reports.map (Report.restarted s.now) := by
      rw [ended, foldl_mark_reports]
      rfl
    have quiet : u.Quiet := by
      intro r mem
      rw [reports] at mem
      exact restarted_quiet unreported.1 s.now r mem
    obtain ⟨far, events⟩ := finish_empty accepts empty quiet r
    obtain ⟨enables, counters, flags⟩ := foldl_abortFlags s.banks.shadowState (emptied d).events
    rw [events]
    refine ⟨far, reports, ?_, ?_, ?_⟩
    · rw [ended, enables]
      rfl
    · rw [ended, counters]
      rfl
    · intro f other
      rw [ended, flags f other]
      rfl
  · have kept : u.agent.session = some x := by rw [agent]; exact session
    have views (side : Side) : (d.ports.get side).view = (s.ports.get side).view := (SideLaws.delivered_port s m side).1
    have steady : (emptied d).steady =
        { s.steady with
          tags := { s.tags with records := Vector.replicate 48 none }
          proxy := { s.proxy with list := [] }
          portA := restarted s.ports.a.view
          portB := restarted s.ports.b.view } := by
      have a : (idlePort d.ports.a).view = restarted s.ports.a.view := congrArg restarted (views .a)
      have b : (idlePort d.ports.b).view = restarted s.ports.b.view := congrArg restarted (views .b)
      rw [← a, ← b]
      rfl
    rw [State.steady_settle, finish_steady, keepResponse_owner r kept own, State.steady_withSession, now, started,
      State.steady_abortTransfer, steady]
    rfl

end Sys2Proof.Machine.RestartLaws
end

section
/-! The table transfer (spec/09): LOAD_BEGIN, the rows of Table 9-2 for LOAD_PART, the steps of R169 for LOAD_END, and
the abort that a gap, a wrong end and the idle deadline share (R171). -/

namespace Sys2Proof.Machine.TransferLaws

open DeliveryLaws BankLaws RefusalLaws ReadLaws

variable {s u : State} {m : Arrival} {seq : Byte} {x : Session} {tr : Transfer}

/-! ## Sums and checksums -/

theorem byteSum_eq_sum (bytes : Payload) : byteSum bytes = (bytes.map (·.setWidth 16)).sum := by
  rw [List.sum_eq_foldl, List.foldl_map]
  rfl

/-- The two bytes of a checksum, high first, read as one word (R169). -/
theorem be16_joined (w : BitVec 16) : w.extractLsb' 8 8 ++ w.extractLsb' 0 8 = w :=
  (BitVec.extractLsb'_append_extractLsb'_eq_extractLsb' (Nat.zero_add 8).symm).trans BitVec.extractLsb'_eq_self

/-! ## The changes that a transfer makes -/

/-- The shadow state replaced, and a flag set or none. -/
def withShadow (z : ShadowState) (flag : Option Flag) (u : State) : State :=
  withBanks { u.banks with shadowState := z } flag u

theorem keepTransfer_eq (tr : Transfer) (u : State) :
    u.keepTransfer tr = withShadow (.loading { tr with idle := u.now + 2000 }) none u := rfl

/-- The abort of an open transfer (R171). -/
theorem abortTransfer_loading (loading : u.banks.shadowState = .loading tr) :
    u.abortTransfer = withShadow .incomplete (some .loadAborted) u := by
  unfold State.abortTransfer
  rw [loading]
  rfl

/-! ## LOAD_BEGIN (R164) -/

/-- The banks as LOAD_BEGIN leaves them: the shadow bank cleared, and a transfer open with nothing applied. -/
def begunBanks (b : Banks) (count : Byte) (now : CTime) : Banks :=
  { b with
    shadow := Bank.cleared
    shadowState := .loading { declared := count.toNat, expected := 0, sum := 0, idle := now + 2000 } }

theorem loadBegin_taken {count : Byte} (idle : u.banks.shadowState.isLoading = false) (low : 1 ≤ count.toNat)
    (high : count.toNat ≤ 65) :
    (loadBeginCommand [count]).run u = (withBanks (begunBanks u.banks count u.now) none u, okReply [count]) := by
  have inRange : ¬(count.toNat < 1 ∨ 65 < count.toNat) := by omega
  simp only [loadBeginCommand, ownerCommand, runLoadBegin]
  cases is : u.banks.shadowState with
  | loading tr => rw [is] at idle; cases idle
  | clean | incomplete => exact if_neg inRange

/-! ## LOAD_PART (R165, Table 9-2) -/

section LoadPart

variable {part b : Byte} {bytes : Payload}

theorem loadPart_beyond (loading : u.banks.shadowState = .loading tr) (beyond : tr.declared ≤ part.toNat) :
    (loadPartCommand (part :: b :: bytes)).run u = (u, ⟨.badArgument, [part, countByte tr.expected]⟩) := by
  simp only [loadPartCommand, runLoadPart, loading, if_pos beyond]

theorem loadPart_duplicate (loading : u.banks.shadowState = .loading tr) (within : part.toNat < tr.declared)
    (earlier : part.toNat < tr.expected) :
    (loadPartCommand (part :: b :: bytes)).run u =
      (u.keepTransfer tr, okReply [part, countByte tr.expected]) := by
  simp only [loadPartCommand, runLoadPart, loading, if_neg (Nat.not_le.2 within), if_pos earlier]

theorem loadPart_gap (loading : u.banks.shadowState = .loading tr) (within : part.toNat < tr.declared)
    (later : tr.expected < part.toNat) :
    (loadPartCommand (part :: b :: bytes)).run u =
      (u.abortTransfer, ⟨.sequenceGap, [part, countByte tr.expected]⟩) := by
  simp only [loadPartCommand, runLoadPart, loading, if_neg (Nat.not_le.2 within), if_neg (Nat.lt_asymm later),
    if_pos later]

theorem loadPart_malformed (loading : u.banks.shadowState = .loading tr) (next : part.toNat = tr.expected)
    (malformed : Item.ofBytes (b :: bytes) = none) :
    (loadPartCommand (part :: b :: bytes)).run u = (u, ⟨.badArgument, [part, countByte tr.expected]⟩) := by
  simp only [loadPartCommand, runLoadPart, loading, next, Nat.lt_irrefl, if_false, malformed, ite_self]

theorem loadPart_applied {item : Item} (loading : u.banks.shadowState = .loading tr)
    (more : tr.expected < tr.declared) (next : part.toNat = tr.expected)
    (read : Item.ofBytes (b :: bytes) = some item) :
    (loadPartCommand (part :: b :: bytes)).run u =
      (u.applyPart tr (b :: bytes) item, okReply [part, countByte (tr.expected + 1)]) := by
  simp only [loadPartCommand, runLoadPart, loading, next, if_neg (Nat.not_le.2 more), Nat.lt_irrefl, if_false, read]

end LoadPart

/-- The banks as the expected part leaves them (R166). -/
def appliedBanks (b : Banks) (tr : Transfer) (item : Item) (sum : BitVec 16) (now : CTime) : Banks :=
  { b with
    shadow := b.shadow.apply item
    shadowState :=
      .loading { declared := tr.declared, expected := tr.expected + 1, sum := tr.sum + sum, idle := now + 2000 } }

theorem applyPart_eq (bytes : Payload) (item : Item) :
    u.applyPart tr bytes item = withBanks (appliedBanks u.banks tr item (byteSum bytes) u.now) none u := rfl

/-! ## LOAD_END (R169) -/

section LoadEnd

variable {h l : Byte}

theorem loadEnd_short (loading : u.banks.shadowState = .loading tr) (missing : tr.expected < tr.declared) :
    (loadEndCommand [h, l]).run u =
      (u.abortTransfer, ⟨.sequenceGap, [countByte tr.declared, countByte tr.expected]⟩) := by
  simp only [loadEndCommand, ownerCommand, runLoadEnd, loading, if_pos missing]

theorem loadEnd_mismatch (loading : u.banks.shadowState = .loading tr) (complete : tr.declared ≤ tr.expected)
    (differs : h ++ l ≠ tr.sum) :
    (loadEndCommand [h, l]).run u = (u.abortTransfer, ⟨.checksumMismatch, be16 tr.sum⟩) := by
  simp only [loadEndCommand, ownerCommand, runLoadEnd, loading, if_neg (Nat.not_lt.2 complete), if_pos differs]

theorem loadEnd_taken (loading : u.banks.shadowState = .loading tr) (complete : tr.declared ≤ tr.expected) :
    (loadEndCommand (be16 tr.sum)).run u =
      (withShadow .clean none u, okReply (countByte tr.declared :: be16 tr.sum)) := by
  have same : ¬tr.sum.extractLsb' 8 8 ++ tr.sum.extractLsb' 0 8 ≠ tr.sum := not_not.2 (be16_joined tr.sum)
  simp only [loadEndCommand, ownerCommand, be16, runLoadEnd, loading, if_neg (Nat.not_lt.2 complete), if_neg same]
  rfl

end LoadEnd

/-! ## The events -/

theorem loadPart_fits {part b : Byte} {bytes : Payload} (short : bytes.length < 19) :
    argsFit (part :: b :: bytes) = true :=
  decide_eq_true (Nat.succ_le_succ short)

/-- The owner's new command whose rule aborts the open transfer: LOAD_ABORTED is set, and of the steady part the shadow
state is INCOMPLETE and no more changes than the session (R171). -/
theorem addressed_aborts {args : Payload} {rule : Command} {reply : Reply} (h : s.HearsOwner m seq x)
    (loading : s.banks.shadowState = .loading tr) (fit : argsFit args = true)
    (run : rule.run (s.delivered m) = ((s.delivered m).abortTransfer, reply)) :
    ∃ t, addressed m seq args rule s = .next t ∧ t.events.has .loadAborted = true ∧
      s.AnswersOnly t m ⟨seq, rule.code, reply.status, reply.args⟩ [.loadAborted] ∧
      t.steady =
        { s.steady with
          shadowState := .incomplete
          session := some (x.answered s.now m.side ⟨seq, rule.code, reply.status, reply.args⟩) } := by
  rw [abortTransfer_loading (u := s.delivered m) loading] at run
  obtain ⟨t, next, flag, only, steady⟩ := addressed_banks h fit run rfl
  exact ⟨t, next, flag _ rfl, only, steady⟩

/-- Settles O33: LOAD_BEGIN, the rows of Table 9-2 that keep the transfer, and the successful LOAD_END, each by its
rule. -/
theorem transfersRunToTheirEnd : Obligations.TransfersRunToTheirEnd := by
  unfold Obligations.TransfersRunToTheirEnd
  refine fun m seq x s h => ⟨fun count idle low high => ?_,
    fun tr b bytes item loading more declared short read => ?_,
    fun tr part b bytes loading short => ⟨fun within earlier => ?_, fun wrong => ?_⟩,
    fun tr loading complete => ?_⟩
  · obtain ⟨t, next, -, only, steady⟩ :=
      addressed_banks (args := [count]) h rfl (loadBegin_taken (u := s.delivered m) idle low high) rfl
    exact ⟨t, next, only, steady⟩
  · have expected : (countByte tr.expected).toNat = tr.expected := countByte_toNat (by omega)
    have run := loadPart_applied (u := s.delivered m) loading more expected read
    rw [applyPart_eq, byteSum_eq_sum] at run
    obtain ⟨t, next, -, only, steady⟩ := addressed_banks h (loadPart_fits short) run rfl
    refine ⟨t, next, only, steady.trans ?_⟩
    cases item <;> rfl
  · have run := loadPart_duplicate (u := s.delivered m) (b := b) (bytes := bytes) loading within earlier
    rw [keepTransfer_eq] at run
    obtain ⟨t, next, -, only, steady⟩ := addressed_banks h (loadPart_fits short) run rfl
    exact ⟨t, next, only, steady⟩
  · refine answers_of_run h (loadPart_fits short) rfl (loadPartCommand (part :: b :: bytes)) rfl ?_
    rcases wrong with beyond | ⟨expected, malformed⟩
    · exact loadPart_beyond (u := s.delivered m) loading beyond
    · exact loadPart_malformed (u := s.delivered m) loading expected malformed
  · obtain ⟨t, next, -, only, steady⟩ := addressed_banks (args := be16 tr.sum) h rfl
      (loadEnd_taken (u := s.delivered m) loading complete.ge) rfl
    exact ⟨t, next, only, steady⟩

/-- An idle deadline that is reached aborts the transfer (R170). -/
theorem expireTransfer_reached (loading : s.banks.shadowState = .loading tr) (past : reached s.now tr.idle = true) :
    s.expireTransfer = s.abortTransfer := by
  unfold State.expireTransfer
  rw [loading]
  exact if_pos past

/-- Settles O34: three commands and the idle deadline make the one abort of R171. -/
theorem transfersAreAborted : Obligations.TransfersAreAborted := by
  unfold Obligations.TransfersAreAborted
  refine ⟨fun m seq x tr s h loading => ⟨fun part b bytes short later within => ?_, fun a l missing => ?_,
    fun a l complete differs => ?_⟩, fun tr s running loading past => ?_⟩
  · have run := loadPart_gap (u := s.delivered m) (b := b) (bytes := bytes) loading within later
    obtain ⟨t, done⟩ := addressed_aborts h loading (loadPart_fits short) run
    exact ⟨t, done⟩
  · have run := loadEnd_short (u := s.delivered m) (h := a) (l := l) loading missing
    obtain ⟨t, done⟩ := addressed_aborts (args := [a, l]) h loading rfl run
    exact ⟨t, done⟩
  · have run := loadEnd_mismatch (u := s.delivered m) loading complete differs
    obtain ⟨t, done⟩ := addressed_aborts (args := [a, l]) h loading rfl run
    exact ⟨t, done⟩
  · set u := s.withShadowState .incomplete with hu
    have next : exec .idleDeadline s = .next (u.setFlag .loadAborted).settle := by
      change Host.Outcome.next (s.event State.expireTransfer) = _
      rw [event_running running, expireTransfer_reached loading past, abortTransfer_loading loading]
      rfl
    refine ⟨_, next, settle_has u _, fun unreported => ?_, ?_⟩
    · rw [settle_mark (s := u) unreported]
      rfl
    · rw [State.steady_settle, State.steady_setFlag, hu]
      rfl

end Sys2Proof.Machine.TransferLaws
end

section
/-! The report list as a list (spec/10, 10.3 and 10.4): at most 8 reports in order of level, one of them outstanding
unless it is empty (R178 to R181), and what is made of it by a report that is made, sent, settled or given up. -/

namespace Sys2Proof.Machine.ReportLaws

variable {P Q : Report → Prop} {rs pre post : List Report} {r y : Report} {g : Report → Report}

/-! ## The list around its outstanding report -/

/-- Of the list `rs` one report is outstanding: `r`, between `pre` and `post`. -/
structure Around (pre : List Report) (r : Report) (post rs : List Report) : Prop where
  list   : rs = pre ++ r :: post
  out    : r.outstanding = true
  others : ∀ y ∈ pre ++ post, y.outstanding = false

theorem Around.outstanding (h : Around pre r post rs) : outstandingReport rs = some r := by
  have front : pre.find? (·.outstanding) = none :=
    List.find?_eq_none.2 fun y mem => by simp [h.others y (List.mem_append_left _ mem)]
  rw [outstandingReport, h.list, List.find?_append, front, Option.none_or, List.find?_cons_of_pos h.out]

theorem Around.retired (h : Around pre r post rs) : retireOutstanding rs = promote (pre ++ post) := by
  have front : ∀ y ∈ pre, ¬y.outstanding = true :=
    fun y mem => by simp [h.others y (List.mem_append_left _ mem)]
  rw [retireOutstanding, h.list, List.eraseP_append_right _ front, List.eraseP_cons_of_pos h.out]

/-- A change of the outstanding report alone. -/
theorem Around.map (h : Around pre r post rs) (same : ∀ y, y.outstanding = false → g y = y) :
    rs.map g = pre ++ g r :: post := by
  have kept : ∀ l : List Report, (∀ y ∈ l, y.outstanding = false) → l.map g = l := fun l off =>
    (List.map_congr_left fun y mem => same y (off y mem)).trans l.map_id
  obtain ⟨front, back⟩ := List.forall_mem_append.1 h.others
  rw [h.list, List.map_append, List.map_cons, kept pre front, kept post back]

theorem Around.only (h : Around pre r post rs) (mem : y ∈ rs) (out : y.outstanding = true) : y = r := by
  rw [h.list, List.mem_append, List.mem_cons] at mem
  have elsewhere : y ∉ pre ++ post := fun other => by simp [h.others y other] at out
  rw [List.mem_append, not_or] at elsewhere
  exact (mem.resolve_left elsewhere.1).resolve_right elsewhere.2

theorem exists_around (one : rs.countP (·.outstanding) = 1) : ∃ pre r post, Around pre r post rs := by
  obtain ⟨r, mem, out⟩ := List.countP_pos_iff.1 (by omega : 0 < rs.countP (·.outstanding))
  obtain ⟨pre, post, rfl⟩ := List.append_of_mem mem
  simp only [List.countP_append, List.countP_cons, out, if_true] at one
  have none_left : (pre ++ post).countP (·.outstanding) = 0 := by rw [List.countP_append]; omega
  exact ⟨pre, r, post, rfl, out, fun y mem => by simpa using List.countP_eq_zero.1 none_left y mem⟩

/-- A report made outstanding, its first send due at once (R180). -/
def promoted (r : Report) : Report := { r with outstanding := true, sends := 0, retry := none }

/-! ## The list as R178 to R181 say -/

/-- At most 8 reports in order of level, one outstanding unless the list is empty, and each of them as `P` says. -/
structure Listed (P : Report → Prop) (rs : List Report) : Prop where
  short : rs.length ≤ Config.reports
  order : rs.Pairwise fun r x => x.level ≤ r.level
  one   : rs.countP (·.outstanding) = min 1 rs.length
  each  : ∀ r ∈ rs, P r

theorem reportsOk_iff {s : State} : s.ReportsOk ↔ Listed Report.Waits s.events.reports :=
  ⟨fun ⟨short, order, one, each⟩ => ⟨short, order, one, each⟩,
    fun ⟨short, order, one, each⟩ => ⟨short, order, one, each⟩⟩

theorem listed_nil : Listed P [] := ⟨Nat.zero_le _, .nil, rfl, List.forall_mem_nil _⟩

/-- A list is empty or stands around its outstanding report. -/
theorem Listed.cases (h : Listed P rs) : rs = [] ∨ ∃ pre r post, Around pre r post rs := by
  cases rs with
  | nil => exact .inl rfl
  | cons x xs => exact .inr (exists_around (by simpa using h.one))

theorem Listed.mono (h : Listed P rs) (weaker : ∀ r, P r → Q r) : Listed Q rs :=
  ⟨h.short, h.order, h.one, fun r mem => weaker r (h.each r mem)⟩

/-- Reports changed other than in level and in which is outstanding. -/
theorem Listed.map (h : Listed P rs) (level : ∀ r, (g r).level = r.level)
    (out : ∀ r, (g r).outstanding = r.outstanding) (each : ∀ r ∈ rs, Q (g r)) : Listed Q (rs.map g) where
  short := by simpa using h.short
  order := List.pairwise_map.2 (by simpa only [level] using h.order)
  one := by simpa [List.countP_map, Function.comp_def, out] using h.one
  each := List.forall_mem_map.2 each

/-- A list with none outstanding, whose first report is made outstanding (R180). -/
theorem listed_promote (short : rs.length ≤ Config.reports) (order : rs.Pairwise fun r x => x.level ≤ r.level)
    (none_out : ∀ r ∈ rs, r.outstanding = false) (each : ∀ r ∈ rs, P r)
    (first : ∀ r ∈ rs, P (promoted r)) : Listed P (promote rs) := by
  cases rs with
  | nil => exact listed_nil
  | cons x xs =>
    obtain ⟨-, off⟩ := List.forall_mem_cons.1 none_out
    have rest : xs.countP (·.outstanding) = 0 := List.countP_eq_zero.2 fun y mem => by simp [off y mem]
    refine ⟨short, List.pairwise_cons.2 (List.pairwise_cons.1 order), ?_, ?_⟩
    · simp [promote, rest]
    · exact List.forall_mem_cons.2 ⟨first x List.mem_cons_self, (List.forall_mem_cons.1 each).2⟩

/-- The outstanding report settled or given up, and the first of the rest made outstanding (R181, R182). -/
theorem Listed.retire (h : Listed P rs) (first : ∀ r, P r → r.outstanding = false →
    P (promoted r)) : Listed P (retireOutstanding rs) := by
  rcases h.cases with rfl | ⟨pre, r, post, around⟩
  · exact listed_nil
  · have rest : (pre ++ post).Sublist rs := by
      rw [around.list]; exact (List.sublist_cons_self r post).append_left pre
    have each : ∀ y ∈ pre ++ post, P y := fun y mem => h.each y (rest.subset mem)
    rw [around.retired]
    exact listed_promote (rest.length_le.trans h.short) (h.order.sublist rest) around.others each
      fun y mem => first y (each y mem) (around.others y mem)

/-! ## A report made (R178, R179) -/

/-- A report inserted after every one of equal or higher level leaves the list in order (R178). -/
theorem insertReport_order (order : rs.Pairwise fun r x => x.level ≤ r.level) :
    (insertReport r rs).Pairwise fun r x => x.level ≤ r.level := by
  induction rs with
  | nil => exact List.pairwise_singleton _ _
  | cons x xs ih =>
    obtain ⟨behind, rest⟩ := List.pairwise_cons.1 order
    unfold insertReport
    split
    · next below =>
      refine List.pairwise_cons.2 ⟨fun y mem => ?_, ih rest⟩
      rcases List.mem_cons.1 ((insertReport_perm r xs).mem_iff.1 mem) with rfl | old
      · exact below
      · exact behind y old
    · next above =>
      refine List.pairwise_cons.2 ⟨List.forall_mem_cons.2 ⟨by omega, fun y mem => ?_⟩, order⟩
      exact (behind y mem).trans (by omega)

/-- A report inserted into a list that is not full; it is outstanding just when it is the only one (R178). -/
theorem Listed.insert (h : Listed P rs) (few : rs.length < Config.reports) (out : r.outstanding = rs.isEmpty)
    (new : P r) : Listed P (insertReport r rs) where
  short := by rw [(insertReport_perm r rs).length_eq]; exact few
  order := insertReport_order h.order
  one := by
    rw [(insertReport_perm r rs).countP_eq, (insertReport_perm r rs).length_eq, List.countP_cons, h.one, out]
    cases rs <;> simp
  each y mem := (List.mem_cons.1 ((insertReport_perm r rs).mem_iff.1 mem)).elim (· ▸ new) (h.each y)

/-- The report that the full list gives up is one that is not outstanding (R179). -/
theorem dropNewest_lowest {low : Nat} (lowest : lowestLevel rs = some low) :
    ∃ pre y post, rs = pre ++ y :: post ∧ y.outstanding = false ∧ dropNewest low rs = pre ++ post := by
  obtain ⟨x, mem, level⟩ := List.mem_map.1 (List.min?_mem lowest)
  obtain ⟨inside, off⟩ := List.mem_filter.1 mem
  obtain ⟨y, front, back, -, found, split, erased⟩ := List.exists_of_eraseP
    (p := fun r => r.level == low && !r.outstanding) (List.mem_reverse.2 inside) (by simpa [level] using off)
  refine ⟨back.reverse, y, front.reverse, ?_, ?_, ?_⟩
  · simpa using congrArg List.reverse split
  · simp only [Bool.and_eq_true, Bool.not_eq_true'] at found
    exact found.2
  · rw [dropNewest, erased, List.reverse_append]

/-- A report that is not outstanding given up by a full list. -/
theorem Listed.drop (h : Listed P (pre ++ y :: post)) (full : (pre ++ y :: post).length = Config.reports)
    (off : y.outstanding = false) : Listed P (pre ++ post) ∧ (pre ++ post).length < Config.reports ∧
      (pre ++ post).isEmpty = false := by
  have rest : (pre ++ post).Sublist (pre ++ y :: post) := (List.sublist_cons_self y post).append_left pre
  have length : (pre ++ post).length = 7 := by
    simp only [List.length_append, List.length_cons, Config.reports] at full ⊢; omega
  refine ⟨⟨by rw [length]; decide, h.order.sublist rest, ?_, fun r mem => h.each r (rest.subset mem)⟩,
    by rw [length]; decide, ?_⟩
  · have one := h.one
    rw [full, List.countP_append, List.countP_cons_of_neg (by simp [off])] at one
    rw [length, List.countP_append, one]
    rfl
  · rw [List.isEmpty_eq_false_iff, ← List.length_pos_iff, length]
    decide

variable {p : Params} {now : CTime} {f : Flag} {group : Group} {ev : Events}

/-- A report made and placed, or dealt with by the full list, leaves the list as it should be (R178, R179). -/
theorem place_listed (h : Listed P ev.reports) (level : Nat) (new : P (made group level now ev)) :
    Listed P (ev.place group level now).1.reports := by
  by_cases few : ev.reports.length < 8
  · rw [place_room level few]
    exact h.insert few rfl new
  · have full : ev.reports.length = 8 := by have := h.short; simp only [Config.reports] at this; omega
    cases lowest : lowestLevel ev.reports with
    | none =>
      unfold Events.place
      simp only [full, Config.reports, lt_irrefl, if_false, lowest]
      exact h
    | some low =>
      rw [place_full full lowest]
      dsimp only
      split
      · obtain ⟨pre, y, post, split, off, dropped⟩ := dropNewest_lowest lowest
        have out : (made group level now ev).outstanding = false := by
          change ev.reports.isEmpty = false
          rw [split]; cases pre <;> rfl
        rw [split] at h full
        obtain ⟨listed, few, some_left⟩ := h.drop full off
        rw [dropped]
        exact listed.insert few (out.trans some_left.symm) new
      · exact h

/-- A report whose send is due, and which has been sent less than 4 times. -/
def Due (r : Report) : Prop := r.retry = none ∧ if r.outstanding then r.sends < Config.reportSends else r.sends = 0

theorem made_due (level : Nat) : Due (made group level now ev) := by
  refine ⟨rfl, ?_⟩
  split
  · exact (by decide : 0 < Config.reportSends)
  · rfl

theorem promoted_due (r : Report) : Due (promoted r) :=
  ⟨rfl, (if_pos rfl).mpr (by decide : 0 < Config.reportSends)⟩

/-! ## Flags and enables (R174, R175, R177) -/

section
variable (new : ∀ r, Due r → P r)
include new

theorem report_listed (h : Listed P ev.reports) : Listed P (ev.report p now group).1.reports := by
  unfold Events.report
  split
  · exact h
  · exact place_listed h _ (new _ (made_due _))

theorem raise_listed (h : Listed P ev.reports) : Listed P (ev.raise p now f).1.reports := by
  unfold Events.raise
  dsimp only
  split
  · exact report_listed new (ev := ev.mark f) h
  · exact h

theorem setFlag_listed (h : Listed P ev.reports) : Listed P (ev.setFlag p now f).reports := by
  have raised := raise_listed new (p := p) (now := now) (f := f) h
  unfold Events.setFlag
  split
  · next eq => rw [eq] at raised; exact raised
  · next eq => rw [eq] at raised; exact raise_listed new raised

theorem setEnables_listed (h : Listed P ev.reports) (set : BitVec 16) :
    Listed P (ev.setEnables p now group set).reports := by
  have reported := report_listed new (p := p) (now := now) (group := group)
    (ev := { ev with enables := ev.enables.set group set }) h
  unfold Events.setEnables
  dsimp only
  split
  · split
    · next eq => rw [eq] at reported; exact reported
    · next eq => rw [eq] at reported; exact raise_listed new reported
  · exact h

/-- Admission makes reports at most (R75 to R77). -/
theorem admit_listed {s : State} (h : Listed P s.events.reports) (side : Side) (frame : Frame) :
    Listed P (s.admitFrame side frame).1.events.reports := by
  unfold State.admitFrame
  repeat' split
  · exact h
  · exact h
  · exact h
  · exact setFlag_listed new h
  · exact setFlag_listed new h
  · exact h

end

/-! ## Sends and the end of an event (R180, R181) -/

/-- A report as it is between two events, its snapshot left aside: the outstanding one has been sent and waits. -/
def Sent (r : Report) : Prop :=
  if r.outstanding then 1 ≤ r.sends ∧ r.sends ≤ Config.reportSends ∧ r.retry.isSome else r.sends = 0 ∧ r.retry = none

/-- A report inside an event. -/
def Drafted (r : Report) : Prop := Sent r ∨ Due r

theorem Drafted.sent (h : Drafted r) (waits : r.outstanding = true → r.retry.isSome) : Sent r := by
  refine h.elim id fun ⟨timer, count⟩ => ?_
  cases out : r.outstanding with
  | true => exact absurd (waits out) (by simp [timer])
  | false => simpa [Sent, out, timer] using count

theorem Drafted.due (h : Drafted r) (timer : r.outstanding = true → r.retry = none) : Due r := by
  refine h.elim (fun sent => ?_) id
  cases out : r.outstanding with
  | true => simp [Sent, out, timer out] at sent
  | false => simpa [Due, Sent, out, and_comm] using sent

theorem Due.sentAt (h : Due r) (now : CTime) : Sent (r.sentAt now) := by
  obtain ⟨timer, count⟩ := h
  cases out : r.outstanding with
  | true =>
    have few : r.sends < Config.reportSends := by simpa [out] using count
    simpa [Sent, Report.sentAt, out] using few
  | false => simpa [Sent, Report.sentAt, out, timer] using count

theorem sentAt_level (now : CTime) (r : Report) : (r.sentAt now).level = r.level := by
  unfold Report.sentAt; split <;> rfl

theorem sentAt_outstanding (now : CTime) (r : Report) : (r.sentAt now).outstanding = r.outstanding := by
  unfold Report.sentAt; split <;> rfl

variable {s : State}

/-- Snapshots are no matter of the order of the list. -/
theorem fixSnapshots_listed (h : Listed P ev.reports)
    (fixed : ∀ r x, P r → Q { r with snapshot := x, making := false }) : Listed Q ev.fixSnapshots.reports := by
  refine h.map (fun r => by split <;> rfl) (fun r => by split <;> rfl) fun r mem => ?_
  have any := fun x => fixed r x (h.each r mem)
  split
  · exact any _
  · next made =>
    rw [Bool.not_eq_true] at made
    rw [← made] at any
    exact any r.snapshot

/-- The send that is due made, or the list given up: no send is due any more (R180, R181). -/
theorem sendDue_listed (h : Listed Drafted s.events.reports) : Listed Sent s.sendDue.events.reports := by
  rcases h.cases with empty | ⟨pre, r, post, around⟩
  · have same : s.sendDue = s := by unfold State.sendDue; rw [empty]; rfl
    rw [same, empty]
    exact listed_nil
  · unfold State.sendDue
    rw [around.outstanding]
    dsimp only
    split
    · next waits =>
      exact ⟨h.short, h.order, h.one, fun y mem => (h.each y mem).sent fun out => around.only mem out ▸ waits⟩
    · next untimed =>
      split
      · exact listed_nil
      · have timer : r.retry = none := by simpa using untimed
        have due : Listed Due s.events.reports :=
          ⟨h.short, h.order, h.one, fun y mem => (h.each y mem).due fun out => around.only mem out ▸ timer⟩
        have admitted := admit_listed (fun _ d => d) due s.agent.params.reportSide (r.frame s.agent.params)
        exact admitted.map (sentAt_level s.now) (sentAt_outstanding s.now) fun y mem =>
          (admitted.each y mem).sentAt s.now

/-- After the end of an event the list is as it should be between events (R178 to R181). -/
theorem settle_reportsOk (h : Listed Drafted s.events.reports) : s.settle.ReportsOk := by
  have before : Listed Drafted s.fixSnapshots.events.reports := fixSnapshots_listed h fun _ _ drafted => drafted
  exact reportsOk_iff.2 (fixSnapshots_listed (sendDue_listed before) fun _ _ sent => ⟨rfl, sent⟩)

end Sys2Proof.Machine.ReportLaws
end

section
/-! The blocks and the report list: a list that is sound inside an event stays so, since each block reaches it through the
setting of flags alone, and the end of an event makes it sound between events (R174 to R181). -/

namespace Sys2Proof.Machine.ReportLaws

variable {s : State}

/-! ## The list inside an event -/

/-- The report list inside an event, where a send may be due. -/
def Inside (s : State) : Prop := Listed Drafted s.events.reports

/-- The report list as an event finds it, where no send is due. -/
def Between (s : State) : Prop := Listed Sent s.events.reports

theorem Between.inside (h : Between s) : Inside s := Listed.mono h fun _ => .inl

theorem between_of_reportsOk (h : s.ReportsOk) : Between s := (reportsOk_iff.1 h).mono fun _ ⟨_, sent⟩ => sent

theorem inside_of_reportsOk (h : s.ReportsOk) : Inside s := (between_of_reportsOk h).inside

/-- An operation that keeps the list sound inside an event. -/
def Keeps (f : State → State) : Prop := ∀ s : State, Inside s → Inside (f s)

theorem setFlag_keeps (f : Flag) : Keeps (State.setFlag f) := fun _ h => setFlag_listed (fun _ => .inr) h

theorem admit_inside (h : Inside s) (side : Side) (f : Frame) : Inside (s.admitFrame side f).1 :=
  admit_listed (fun _ => .inr) h side f

theorem settle_keeps : Keeps State.settle := fun _ h => inside_of_reportsOk (settle_reportsOk h)

/-! ## The queues and the ports -/

theorem removedUnder_keeps (side : Side) (m : Mark) : Keeps (State.removedUnder side m) := by
  intro s h
  cases m with
  | stale => exact setFlag_keeps .staleDrop (s.countQueue side _) h
  | _ => exact h

theorem expire_keeps (side : Side) (place : Nat) : Keeps (State.expire side place) := by
  intro s h
  unfold State.expire
  repeat' split
  · exact h
  · exact removedUnder_keeps side .stale (s.onQueue side _) h
  · exact h

theorem expireOverAge_keeps (side : Side) (c : FClass) (n : Nat) : Keeps (State.expireOverAge side c n) := by
  intro s h
  induction n generalizing s with
  | zero => exact h
  | succ n ih =>
    unfold State.expireOverAge
    refine ih _ ?_
    repeat' split
    · exact expire_keeps side n s h
    · exact h
    · exact h

theorem rereadAge_keeps (side : Side) (c : FClass) : Keeps (State.rereadAge side c) := fun s h =>
  expireOverAge_keeps side c _ (s.onQueue side _) h

/-- The frame on the line leaves its queue or goes back to waiting (Table 4-3). -/
theorem settleFate_keeps (side : Side) (o : LineOutcome) : Keeps (State.settleFate side o) := by
  have failed : ∀ i x, Keeps (State.failFrame side i x) := by
    intro i x s h
    unfold State.failFrame
    split
    · exact setFlag_keeps _ ((s.onQueue side _).countQueue side _) h
    · exact h
  have removed : ∀ i m, Keeps fun s => (s.onQueue side (·.eraseIdx i)).removedUnder side m := fun i m s h =>
    removedUnder_keeps side m (s.onQueue side _) h
  intro s h
  unfold State.settleFate State.settleFrame
  dsimp only
  repeat' split
  · exact h
  · exact h
  · exact removed _ _ s h
  · exact failed _ _ s h
  · exact removed _ _ s h
  · exact failed _ _ s h
  · exact removed _ _ s h
  · exact h
  · exact h

/-- A side that changes its state under a score sets the flag of its new state (R104 to R106). -/
theorem testSide_keeps (side : Side) : Keeps (State.testSide side) := by
  have silent : Keeps (State.enterSilent side) := fun s h => setFlag_keeps (.silent side) (s.onPort side _) h
  have warned : Keeps (State.enterWarned side) := fun s h => setFlag_keeps (.warned side) (s.onPort side _) h
  intro s h
  unfold State.testSide
  dsimp only
  repeat' split
  · exact silent s h
  · exact warned s h
  · exact h
  · exact silent s h
  · exact h
  · exact h
  · exact h
  · exact h

theorem endAttempt_keeps (side : Side) (o : LineOutcome) : Keeps (State.endAttempt side o) := by
  intro s h
  unfold State.endAttempt
  split
  · exact testSide_keeps side ((s.settleFate side o).onPort side _) (settleFate_keeps side o s h)
  · exact h

theorem select_keeps (side : Side) : Keeps (State.select side) := by
  intro s h
  unfold State.select
  repeat' split
  all_goals exact h

theorem recover_keeps (side : Side) (f : PortCounters → PortCounters) : Keeps (State.recover side f) := fun s h =>
  setFlag_keeps (.recovered side) (s.onPort side _) h

/-! ## The classifier, the trip unit and the query proxy -/

theorem forward_inside (h : Inside s) (side : Side) (f : Frame) : Inside (s.forward side f).1 := by
  unfold State.forward
  split
  · exact setFlag_keeps .hopExpired (s.countClassifier side _) h
  · exact admit_inside (s := s.countClassifier side _) h side.far _

theorem defaultAction_keeps (side : Side) (f : Frame) : Keeps (State.defaultAction side f) := by
  intro s h
  unfold State.defaultAction
  dsimp only
  split
  · exact forward_inside (s := s.countClassifier side _) h side f
  · exact h

/-- Entry into TRIPPED sets TRIPPED; the trip purge and the clearing of the outstanding list set nothing (R137). -/
theorem enterTripped_keeps (k : Fin 4) (side : Side) (tag : Tag) : Keeps (State.enterTripped k side tag) := by
  have cleared : ∀ u : State, Inside ((u.tripPurge .a).tripPurge .b) →
      Inside ((u.tripPurge .a).tripPurge .b).clearQueries := by
    intro u hu
    obtain ⟨-, -, -, -, -, -, events, -⟩ := ((u.tripPurge .a).tripPurge .b).clearQueries_keeps
    unfold Inside
    rw [events]
    exact hu
  exact fun s h => cleared _ (setFlag_keeps .tripped { s with trip := _ } h)

theorem tripStep_inside (h : Inside s) (side : Side) (tag : Tag) (f : Frame) (e : Entry) :
    Inside (s.tripStep side tag f e).1 := by
  have collected : ∀ k, ∀ u : State, Inside u → Inside (u.collect k side tag).1 := by
    intro k u hu
    unfold State.collect
    dsimp only
    split
    · exact enterTripped_keeps k side tag u hu
    · exact hu
  unfold State.tripStep State.offerTrip State.assertSource
  dsimp only
  repeat' split
  · exact h
  · exact collected _ (s.countTrip _).beginCollection h
  · exact h
  · exact collected _ (s.countTrip _) h
  all_goals exact h

theorem tagStep_inside (h : Inside s) (side : Side) (tag : Tag) (settled : Bool) (p : Payload) (e : Entry) :
    Inside (s.tagStep side tag settled p e).1 := by
  unfold State.tagStep
  repeat' split
  · exact h
  · exact h
  · exact setFlag_keeps .tagMemoryFull { s with tags := _ } h

theorem dataUnder_keeps (side : Side) (tag : Tag) (settled : Bool) (f : Frame) (e : Entry) :
    Keeps (State.dataUnder side tag settled f e) := by
  have onward : Keeps (State.dataOnward side tag settled f e) := by
    intro u hu
    have stepped := tagStep_inside hu side tag settled f.payload e
    unfold State.dataOnward
    split
    · split
      · next eq => rw [eq] at stepped; exact forward_inside stepped side _
      · next eq => rw [eq] at stepped; exact stepped
      · next eq => rw [eq] at stepped; exact stepped
    · exact forward_inside hu side _
  intro s h
  have offered := tripStep_inside h side tag f e
  unfold State.dataUnder
  split
  · next eq => rw [eq] at offered; exact offered
  · next eq =>
    rw [eq] at offered
    split
    · exact offered
    · exact onward _ offered

/-- A DATA frame: settlement, match, trip unit, tag memory and hand-off (R15 to R26). -/
theorem classifyData_keeps (side : Side) (reply : Bool) (tag : Tag) (f : Frame) :
    Keeps (State.classifyData side reply tag f) := by
  have matched : ∀ settled, Keeps (State.matchData side tag settled f) := by
    intro settled u hu
    unfold State.matchData
    split
    · exact dataUnder_keeps side tag settled f _ (u.hit _) hu
    · exact defaultAction_keeps side f u hu
  have settled : Keeps (State.settleReply side tag) := by
    intro u hu
    unfold State.settleReply
    split <;> exact hu
  intro s h
  have taken : Inside (s.countClassifier side fun c => { c with dataTaken := bump c.dataTaken }) := h
  unfold State.classifyData
  dsimp only
  repeat' split
  · exact taken
  · exact matched _ _ (settled _ taken)
  · exact matched _ _ taken

/-- The proxy step hands an answer to admission, or sets QUERY_UNTRACKED and TAG_MEMORY_FULL at most (R54 to R59). -/
theorem proxyStep_inside (h : Inside s) (side : Side) (tag : Tag) (hop : Hop) (cls : FClass) :
    Inside (s.proxyStep side tag hop cls).1 := by
  have untracked : Keeps (State.leaveUntracked side) := setFlag_keeps .queryUntracked
  have answered : ∀ value, Keeps (State.answerQuery side tag value cls) := fun value u hu =>
    admit_inside hu side (answerFrame u.agent.params tag value cls)
  have asked : ∀ found, ∀ u : State, Inside u → Inside (u.askAcross side tag hop cls found).1 := by
    intro found u hu
    unfold State.askAcross
    repeat' split
    · exact hu
    · exact hu
    · exact untracked u hu
    · exact hu
    · exact hu
    · exact untracked _ (setFlag_keeps .tagMemoryFull { u with tags := _ } hu)
  unfold State.proxyStep
  dsimp only
  split
  · exact answered _ { s with tags := _ } h
  · exact asked _ { s with tags := _ } h

/-- A QUERY under its winning entry: the proxy step, then the hand-off (R21, R23). -/
theorem queryUnder_keeps (side : Side) (tag : Tag) (f : Frame) (e : Entry) : Keeps (State.queryUnder side tag f e) := by
  have withdrawn : Keeps (State.withdrawQuery side tag) := by
    intro u hu
    unfold State.withdrawQuery
    split <;> exact hu
  have tracked : ∀ g, Keeps (State.forwardTracked side tag g) := by
    intro g u hu
    have sent := forward_inside hu side g
    unfold State.forwardTracked
    split
    · next eq => rw [eq] at sent; exact withdrawn _ sent
    · next eq => rw [eq] at sent; exact sent
  intro s h
  have asked := proxyStep_inside h side tag f.hop (e.classOf f.cls)
  unfold State.queryUnder
  split
  · exact h
  · exact forward_inside h side _
  · exact forward_inside h side _
  · split
    · next eq => rw [eq] at asked; exact asked
    · next eq => rw [eq] at asked; exact asked
    · next eq => rw [eq] at asked; exact tracked _ _ asked
    · next eq => rw [eq] at asked; exact forward_inside asked side _

theorem classifyQuery_keeps (side : Side) (reply : Bool) (tag : Tag) (f : Frame) :
    Keeps (State.classifyQuery side reply tag f) := by
  intro s h
  unfold State.classifyQuery State.matchQuery
  dsimp only
  repeat' split
  · exact h
  · exact h
  · exact queryUnder_keeps side tag f _ (State.hit _ (s.countClassifier side _)) h
  · exact defaultAction_keeps side f (s.countClassifier side _) h

theorem forwardMgmt_keeps (side : Side) (f : Frame) : Keeps (State.forwardMgmt side f) := by
  intro s h
  unfold State.forwardMgmt
  split
  · exact h
  · exact forward_inside h side f

/-! ## Deadlines and the agent's steps -/

theorem autoRecover_keeps (side : Side) : Keeps (State.autoRecover side) := by
  intro s h
  unfold State.autoRecover
  dsimp only
  split
  · exact recover_keeps side _ s h
  · exact h

theorem ageOut_keeps (side : Side) (place : Nat) : Keeps (State.ageOut side place) := by
  intro s h
  unfold State.ageOut
  repeat' split
  · exact expire_keeps side place s h
  · exact h
  · exact h

theorem timeoutQuery_keeps (place : Nat) : Keeps (State.timeoutQuery place) := by
  intro s h
  unfold State.timeoutQuery
  repeat' split
  · exact setFlag_keeps .queryTimeout (s.removeQuery _) h
  · exact h
  · exact h

theorem lapseWindow_keeps : Keeps State.lapseWindow := by
  intro s h
  unfold State.lapseWindow
  split
  · exact setFlag_keeps .tripLapsed { s with trip := _ } h
  · exact h

theorem abortTransfer_keeps : Keeps State.abortTransfer := by
  intro s h
  unfold State.abortTransfer
  split
  · exact setFlag_keeps .loadAborted (s.withShadowState _) h
  · exact h
  · exact h

theorem expireLease_keeps : Keeps State.expireLease := by
  intro s h
  unfold State.expireLease
  repeat' split
  · exact setFlag_keeps .leaseExpired (s.endSession.countAgent _) (abortTransfer_keeps s h)
  · exact h
  · exact h

theorem expireTransfer_keeps : Keeps State.expireTransfer := by
  intro s h
  unfold State.expireTransfer
  repeat' split
  · exact abortTransfer_keeps s h
  all_goals exact h

theorem completeStore_keeps (verified : Bool) : Keeps (State.completeStore verified) := by
  intro s h
  unfold State.completeStore State.endStore
  repeat' split
  · exact setFlag_keeps .storeDone { s with image := _ } h
  · exact setFlag_keeps .storeFailed { s with image := _ } h
  all_goals exact h

/-- The outstanding report settled, and the send of the next one due (R182). -/
theorem takeAck_keeps (src : Station) (seq : Byte) : Keeps (State.takeAck src seq) := by
  intro s h
  unfold State.takeAck
  split
  · exact h.retire fun _ _ _ => .inr (promoted_due _)
  · exact h

/-- The outstanding report's send due again, or the report given up (R181). -/
theorem retryReport_keeps : Keeps State.retryReport := by
  intro s h
  unfold State.retryReport
  rcases h.cases with empty | ⟨pre, r, post, around⟩
  · rw [empty]
    exact h
  · rw [around.outstanding]
    dsimp only
    split
    · split
      · next few =>
        refine h.map (fun y => by unfold Report.sendAgain; split <;> rfl)
          (fun y => by unfold Report.sendAgain; split <;> rfl) fun y mem => ?_
        unfold Report.sendAgain
        split
        · next out => exact .inr ⟨rfl, (if_pos out).mpr (around.only mem out ▸ few)⟩
        · exact h.each y mem
      · exact h.retire fun _ _ _ => .inr (promoted_due _)
    · exact h

end Sys2Proof.Machine.ReportLaws
end

section
/-! Every command and every row of the table keeps the report list in order (R178 to R181): a command finds the list as
the event before left it, RESTART starts the retry interval again, and the end of the event settles what was made. -/

namespace Sys2Proof.Machine.ReportLaws

variable {s t : State}

/-! ## The agent -/

/-- An operation that begins on a list sound between events, and leaves it sound inside an event. -/
def Begins (f : State → State) : Prop := ∀ s : State, Between s → Inside (f s)

theorem Keeps.begins {f : State → State} (h : Keeps f) : Begins f := fun s k => h s k.inside

/-- A command's rule that keeps the list sound inside an event. -/
abbrev KeepsRule (run : State → State × Reply) : Prop := Keeps fun s => (run s).1

/-- A command whose rule begins on a sound list, and whose refusal does. -/
structure KeptBy (c : Command) : Prop where
  run    : Begins fun s => (c.run s).1
  refuse : Begins fun s => (c.refuse s).1

theorem respond_keeps (m : Arrival) (r : Response) : Keeps (State.respond m r) := by
  intro s h
  have admitted := admit_inside h m.side (responseFrame s.agent.params m.source r)
  unfold State.respond
  split
  · next eq => rw [eq] at admitted; exact admitted
  · next eq => rw [eq] at admitted; exact admitted

theorem finish_keeps (first : Bool) (m : Arrival) (r : Response) : Keeps (State.finish first m r) := by
  intro s h
  obtain ⟨y, kept⟩ := AgentLaws.keepResponse_session s m r
  have session : Inside (s.withSession y) := h
  unfold State.finish
  dsimp only
  rw [kept]
  split
  · exact respond_keeps m r _ (settle_keeps _ session)
  · exact respond_keeps m r _ session

/-- A COMMAND taken by the agent (R144). -/
theorem take_begins {c : Command} (hc : KeptBy c) (m : Arrival) (seq : Byte) : Begins (State.take m seq c) := by
  intro s h
  have decided : Inside (s.countCommand.decideCommand m c).1 := by
    unfold State.decideCommand
    split
    · exact hc.refuse (s.countCommand.countAgent _) h
    · exact hc.run s.countCommand h
  unfold State.take
  split
  · exact respond_keeps m _ _ h.inside
  · split
    next eq => rw [eq] at decided; exact finish_keeps _ m _ _ decided

theorem takeBroadcast_begins {c : Command} (hc : KeptBy c) (m : Arrival) (seq : Byte) :
    Begins (State.takeBroadcast m seq c) := by
  intro s h
  have run : Inside (c.run s.countCommand).1 := hc.run s.countCommand h
  unfold State.takeBroadcast
  split
  next eq => rw [eq] at run; exact respond_keeps m _ _ (settle_keeps _ run)

/-! ## The commands -/

variable {run : State → State × Reply} {code : Byte}

theorem openCommand_kept (h : KeepsRule run) : KeptBy (openCommand code run) := ⟨h.begins, fun _ k => k.inside⟩

theorem ownerCommand_kept (h : KeepsRule run) : KeptBy (ownerCommand code run) := ⟨h.begins, fun _ k => k.inside⟩

theorem noArguments_keeps (h : KeepsRule run) (args : Payload) : KeepsRule (noArguments args run) := by
  intro s k
  dsimp only
  unfold noArguments
  split
  · exact h s k
  · exact k

theorem inClean_keeps (h : KeepsRule run) : KeepsRule (inClean run) := by
  intro s k
  dsimp only
  unfold inClean
  split
  · exact k
  · exact h s k

theorem identify_kept (args : Payload) : KeptBy (identifyCommand args) :=
  openCommand_kept (noArguments_keeps (fun _ h => h) args)

theorem openSession_kept (m : Arrival) (seq : Byte) (args : Payload) : KeptBy (openSessionCommand m seq args) := by
  refine openCommand_kept fun s h => ?_
  dsimp only
  unfold runOpen
  repeat' split
  all_goals exact h

theorem close_kept (args : Payload) : KeptBy (closeCommand args) :=
  ownerCommand_kept (noArguments_keeps abortTransfer_keeps args)

/-- Cleared counters are no reports (R159). -/
theorem clearSet_keeps (n : Nat) : Keeps (State.clearSet n) := by
  intro s h
  unfold State.clearSet
  split
  all_goals exact h

theorem clearCounters_kept (args : Payload) : KeptBy (clearCountersCommand args) := by
  refine ownerCommand_kept fun s h => ?_
  have all : Inside s.clearAllSets := by
    unfold State.clearAllSets
    exact List.foldlRecOn _ _ h fun u hu n _ => clearSet_keeps n u hu
  dsimp only
  repeat' split
  · exact all
  · exact clearSet_keeps _ s h
  · exact h
  · exact h

/-- The commands on the shadow bank but COMMIT touch the banks alone (R120 to R122). -/
theorem edits_kept (args : Payload) :
    KeptBy (writeEntryCommand args) ∧ KeptBy (writeMasksDefaultsCommand args) ∧ KeptBy (copyActiveCommand args) := by
  refine ⟨ownerCommand_kept fun s h => ?_, ownerCommand_kept fun s h => ?_,
    ownerCommand_kept (noArguments_keeps (fun s h => ?_) args)⟩
  · dsimp only
    unfold inClean
    repeat' split
    all_goals exact h
  · dsimp only
    unfold inClean
    repeat' split
    all_goals exact h
  · dsimp only
    unfold runCopyActive
    split <;> exact h

/-- COMMIT sets COMMIT_DONE or COMMIT_REFUSED (R125, R127). -/
theorem commit_kept (args : Payload) : KeptBy (commitCommand args) := by
  refine ownerCommand_kept (noArguments_keeps (inClean_keeps fun s h => ?_) args)
  dsimp only
  unfold runCommit
  split
  · exact setFlag_keeps .commitRefused (s.countBank _) h
  · exact setFlag_keeps .commitDone { s with banks := _ } h

theorem loadBegin_kept (args : Payload) : KeptBy (loadBeginCommand args) := by
  refine ownerCommand_kept fun s h => ?_
  dsimp only
  unfold runLoadBegin
  repeat' split
  all_goals exact h

theorem loadPart_kept (args : Payload) : KeptBy (loadPartCommand args) := by
  have refused : ∀ status, KeepsRule (refuseLoadPart status args) := by
    intro status s h
    cases args <;> exact h
  refine ⟨Keeps.begins fun s h => ?_, (refused _).begins⟩
  dsimp only [loadPartCommand]
  split
  · unfold runLoadPart
    repeat' split
    · exact h
    · exact h
    · exact h
    · exact h
    · exact abortTransfer_keeps s h
    · exact h
    · exact h
  · exact refused _ s h

theorem loadEnd_kept (args : Payload) : KeptBy (loadEndCommand args) := by
  refine ownerCommand_kept fun s h => ?_
  dsimp only
  unfold runLoadEnd
  repeat' split
  · exact h
  · exact h
  · exact abortTransfer_keeps s h
  · exact abortTransfer_keeps s h
  · exact h
  · exact h

theorem readRecord_kept (args : Payload) : KeptBy (readRecordCommand args) := by
  have readout : ∀ i page, Keeps fun s => (s.readout i page).1 := by
    intro i page s h
    dsimp only
    unfold State.readout
    split <;> exact h
  refine openCommand_kept fun s h => ?_
  dsimp only
  repeat' split
  · exact readout _ _ s h
  · exact h
  · exact h
  · exact readout _ _ s h
  all_goals exact h

theorem flush_kept (args : Payload) : KeptBy (flushCommand args) :=
  ownerCommand_kept (noArguments_keeps (fun _ h => h) args)

theorem cancelTag_kept (args : Payload) : KeptBy (cancelTagCommand args) := by
  refine ownerCommand_kept fun s h => ?_
  have cancelled : ∀ sides tag, Inside (s.cancelTag sides tag).1 := by
    intro sides tag
    unfold State.cancelTag
    split
    · exact h
    · split
      · exact h
      · split <;> exact h
  dsimp only
  repeat' split
  · exact cancelled _ _
  · exact h
  · exact h

/-- Of the actions on a side a recovery sets a flag (R108 to R110). -/
theorem sideControl_kept (args : Payload) : KeptBy (sideControlCommand args) := by
  have off : ∀ side, Keeps (State.sideOff side) := by
    intro side s h
    unfold State.sideOff State.abortAttempt
    split <;> exact h
  refine ownerCommand_kept fun s h => ?_
  have acted : ∀ side action u, s.sideAction side action = some u → Inside u := by
    intro side action u e
    unfold State.sideAction at e
    split at e <;> cases e
    · exact h
    · exact off side s h
    · exact h
    · exact recover_keeps side _ s h
  dsimp only
  unfold runSideControl
  repeat' split
  · next e => exact acted _ _ _ e
  all_goals exact h

/-- A new age limit re-reads the queues, and frames may go stale (R84). -/
theorem setConfig_kept (args : Payload) : KeptBy (setConfigCommand args) := by
  have configured : ∀ i v, Keeps (State.configure i v) := by
    intro i v s h
    unfold State.configure
    dsimp only
    split
    · exact rereadAge_keeps .b _ _ (rereadAge_keeps .a _ (s.withParams _) h)
    · exact h
  refine ownerCommand_kept fun s h => ?_
  dsimp only
  repeat' split
  · exact h
  · exact h
  · exact h
  · exact configured _ _ s h
  · exact h

theorem setTrip_kept (args : Payload) : KeptBy (setTripCommand args) := by
  refine ownerCommand_kept fun s h => ?_
  dsimp only
  unfold runSetTrip
  repeat' split
  all_goals exact h

theorem releaseTrip_kept (args : Payload) : KeptBy (releaseTripCommand args) := by
  refine ownerCommand_kept (noArguments_keeps (fun s h => ?_) args)
  dsimp only
  unfold runReleaseTrip
  split
  · exact setFlag_keeps .tripReleased { s with trip := _ } h
  · exact h

theorem clearEvents_kept (args : Payload) : KeptBy (clearEventsCommand args) := by
  refine ownerCommand_kept fun s h => ?_
  dsimp only
  split <;> exact h

/-- New enables may raise their group, whose report is then sent at once (R177). -/
theorem enableEvents_kept (args : Payload) : KeptBy (enableEventsCommand args) := by
  refine ownerCommand_kept fun s h => ?_
  dsimp only
  split
  · exact settle_keeps _ (setEnables_listed (fun _ => .inr) h _)
  · exact h

theorem store_kept (args : Payload) : KeptBy (storeCommand args) := by
  have readout : ∀ i, Keeps fun s => (s.slotReadout i).1 := by
    intro i s h
    dsimp only
    unfold State.slotReadout
    split <;> exact h
  refine ownerCommand_kept (noArguments_keeps (fun s h => ?_) args)
  dsimp only
  unfold runStore
  split
  · exact h
  · exact readout .one _ (readout .zero s.beginStore h)

/-- RESTART starts the retry interval of the outstanding report again, which has been sent (R184). -/
theorem restarted_sent {r : Report} (h : Sent r) (now : CTime) : Sent (r.restarted now) := by
  unfold Report.restarted
  split
  · next out =>
    unfold Sent at h ⊢
    rw [if_pos out] at h
    obtain ⟨some_sent, few, -⟩ := h
    exact (if_pos out).mpr ⟨some_sent, few, rfl⟩
  · exact h

theorem restart_kept (args : Payload) : KeptBy (restartCommand args) := by
  refine ⟨fun s h => ?_, fun _ h => h.inside⟩
  have emptied : Between (RestartLaws.emptied s) :=
    h.map (fun r => by unfold Report.restarted; split <;> rfl) (fun r => by unfold Report.restarted; split <;> rfl)
      fun r mem => restarted_sent (h.each r mem) s.now
  change Inside (noArguments args runRestart s).1
  unfold noArguments runRestart
  repeat' split
  · exact h.inside
  · rw [RestartLaws.restartAll_eq]
    exact abortTransfer_keeps _ emptied.inside
  · exact h.inside

theorem unknown_kept (code : Byte) : KeptBy (unknownCode code) := openCommand_kept fun _ h => h

/-- The reads of the agent, the banks, the queries and the event unit. -/
theorem reads_kept (m : Arrival) (args : Payload) :
    KeptBy (statusCommand m args) ∧ KeptBy (readCountersCommand args) ∧ KeptBy (readEntryCommand args) ∧
      KeptBy (readQueriesCommand args) ∧ KeptBy (readConfigCommand args) ∧ KeptBy (readEventsCommand args) := by
  refine ⟨openCommand_kept fun s h => ?_, openCommand_kept fun s h => ?_, openCommand_kept fun s h => ?_,
    openCommand_kept fun s h => ?_, openCommand_kept fun s h => ?_, openCommand_kept fun s h => ?_⟩
  all_goals
    dsimp only
    repeat' split
    all_goals exact h

/-- Every command keeps the list. -/
theorem commandFor_kept (m : Arrival) (seq code : Byte) (args : Payload) : KeptBy (commandFor m seq code args) := by
  obtain ⟨status, counters, entry, queries, config, events⟩ := reads_kept m args
  obtain ⟨writeEntry, masks, copy⟩ := edits_kept args
  unfold commandFor
  split
  · exact identify_kept args
  · exact openSession_kept m seq args
  · exact close_kept args
  · exact status
  · exact counters
  · exact clearCounters_kept args
  · exact entry
  · exact writeEntry
  · exact masks
  · exact copy
  · exact commit_kept args
  · exact loadBegin_kept args
  · exact loadPart_kept args
  · exact loadEnd_kept args
  · exact readRecord_kept args
  · exact flush_kept args
  · exact queries
  · exact cancelTag_kept args
  · exact sideControl_kept args
  · exact setConfig_kept args
  · exact config
  · exact setTrip_kept args
  · exact releaseTrip_kept args
  · exact events
  · exact clearEvents_kept args
  · exact enableEvents_kept args
  · exact store_kept args
  · exact restart_kept args
  · exact unknown_kept code

/-! ## Receptions and messages -/

/-- A MGMT frame, for an agent that begins on a sound list (R27 to R30). -/
theorem classifyMgmt_begins {agent : State → State} (ha : Begins agent) (side : Side) (f : Frame)
    (dst src : Station) : Begins (State.classifyMgmt side f dst src agent) := by
  intro s h
  have handed := ha (s.countClassifier side fun c => { c with mgmtTaken := bump c.mgmtTaken }) h
  unfold State.classifyMgmt
  dsimp only
  repeat' split
  · exact h.inside
  · exact handed
  · exact forwardMgmt_keeps side f _ handed
  · exact forwardMgmt_keeps side f (s.countClassifier side _) h.inside

/-- The end of a frame at a port, for a reception that begins on a sound list (R96 to R98, R114). -/
theorem endOfFrame_begins {take : State → State} (ht : Begins take) (side : Side) :
    Begins (State.endOfFrame side take) := by
  intro s h
  rcases s.endOfFrame_cases side take with ⟨-, e⟩ | ⟨-, -, e⟩ | ⟨-, -, e⟩ <;> rw [e]
  · exact h.inside
  · exact h.inside
  · exact ht s h

/-- What the agent does with a message, whatever it is (R143). -/
theorem agentTakes_begins (m : Arrival) (toAll : Bool) (payload : Payload) :
    Begins (State.agentTakes m toAll payload) := by
  intro s h
  unfold State.agentTakes State.takeAnnouncement State.takeMessage
  split
  · repeat' split
    · exact h.inside
    · exact takeBroadcast_begins (identify_kept _) m _ s h
    · exact h.inside
    · exact take_begins (commandFor_kept m _ _ _) m _ s h
    · exact takeAck_keeps _ _ s h.inside
    · exact h.inside
    · exact h.inside
  · exact h.inside

theorem receive_begins (side : Side) (bytes : List Byte) : Begins (State.receive side bytes) := by
  have classify : ∀ f, Begins (State.classify side f) := by
    intro f s h
    unfold State.classify
    split
    · exact classifyData_keeps side _ _ f s h.inside
    · exact classifyQuery_keeps side _ _ f s h.inside
    · exact classifyMgmt_begins (agentTakes_begins _ _ _) side f _ _ s h
    · exact h.inside
  refine endOfFrame_begins (fun s h => ?_) side
  split
  · exact classify _ ((s.acknowledge side true).countPort side _) h
  · exact setFlag_keeps (.badFrame side) ((s.acknowledge side false).countPort side _) h.inside

/-! ## Every row -/

/-- An event of the running part is settled; a part that does not run takes none (R190). -/
theorem event_reportsOk {f : State → State} (hf : Begins f) (h : s.ReportsOk) : (s.event f).ReportsOk := by
  unfold State.event
  split
  · exact settle_reportsOk (hf s (between_of_reportsOk h))
  · exact h

/-- A message row that the bus can carry is an event, else it stops (log entry 20). -/
theorem arrival_reportsOk (h : s.ReportsOk) {fits toAll : Bool} {m : Arrival} {payload : Payload}
    {agent : State → State} (ha : Begins agent) (e : arrival fits m toAll payload agent s = .next t) :
    t.ReportsOk := by
  have arrives : Begins (State.arrive m toAll payload agent) := fun u hu =>
    endOfFrame_begins (fun v hv => classifyMgmt_begins ha m.side _ _ m.source
      ((v.acknowledge m.side true).countPort m.side _) hv) m.side u hu
  unfold arrival at e
  split at e <;> cases e
  exact event_reportsOk arrives h

/-- A part that starts or stops holds no report (R190, R192). -/
theorem reportsOk_of_empty (h : s.events.reports = []) : s.ReportsOk := reportsOk_iff.2 (h ▸ listed_nil)

/-- The end of STARTING sets the image flag that is due, and settles (R192). -/
theorem endStarting_reportsOk (h : s.ReportsOk) (busyA busyB : Bool) : (s.endStarting busyA busyB).ReportsOk := by
  by_cases starting : s.phase = .starting
  · rw [ReceptionLaws.endStarting_eq starting]
    refine settle_reportsOk ?_
    have begun : Inside (ReceptionLaws.begun busyA busyB s) := inside_of_reportsOk h
    cases s.image.flagDue with
    | none => exact begun
    | some f => exact setFlag_keeps f _ begun
  · have same : s.endStarting busyA busyB = s := by
      unfold State.endStarting
      split
      · contradiction
      all_goals rfl
    rw [same]
    exact h

theorem exec_reportsOk (h : s.ReportsOk) {i : Instr} (e : exec i s = .next t) : t.ReportsOk := by
  have event : ∀ f, Keeps f → (s.event f).ReportsOk := fun f keeps => event_reportsOk keeps.begins h
  cases c : i.command with
  | some x =>
    obtain ⟨m, seq, code⟩ := x
    rw [(CommandRows.command_row (CommandRows.wellFormed_of_next e) c).2] at e
    exact arrival_reportsOk h (take_begins (commandFor_kept m seq code i.args) m seq) e
  | none =>
    cases i with
    | rstNLow => cases e; exact reportsOk_of_empty rfl
    | powerLoss => cases e; exact reportsOk_of_empty rfl
    | startUp strap failmodeHigh checks0 checks1 => cases e; exact reportsOk_of_empty rfl
    | startingEnd busyA busyB => cases e; exact endStarting_reportsOk h busyA busyB
    | reception side bytes => cases e; exact event_reportsOk (receive_begins side bytes) h
    | transmitterSelection side => cases e; exact event _ (select_keeps side)
    | lineWaitExpiry side =>
      cases e
      refine event _ fun u hu => ?_
      split
      · exact endAttempt_keeps side .lineError u hu
      · exact hu
    | attemptCompletion side outcome => cases e; exact event _ (endAttempt_keeps side outcome)
    | recoveryDeadline side => cases e; exact event _ (autoRecover_keeps side)
    | ageDeadline side place => cases e; exact event _ (ageOut_keeps side place)
    | freshnessDeadline record => cases e; exact event _ fun _ hu => hu
    | queryEntryDeadline place => cases e; exact event _ (timeoutQuery_keeps place)
    | windowDeadline => cases e; exact event _ lapseWindow_keeps
    | leaseDeadline => cases e; exact event _ expireLease_keeps
    | idleDeadline => cases e; exact event _ expireTransfer_keeps
    | retryDeadline => cases e; exact event _ retryReport_keeps
    | storeCompletion verified => cases e; exact event _ (completeStore_keeps verified)
    | ack m seq =>
      change arrival true m false (ackPayload seq) (State.takeAck m.source seq) s = .next t at e
      exact arrival_reportsOk h (takeAck_keeps m.source seq).begins e
    | badMessage m toAll payload =>
      exact arrival_reportsOk (agent := State.countBadMessage) h (fun _ hu => hu.inside) e
    | ignoredMessage m toAll payload =>
      exact arrival_reportsOk (agent := State.countIgnoredMessage) h (fun _ hu => hu.inside) e
    | identify m toAll seq args =>
      cases toAll with
      | true => exact arrival_reportsOk h (takeBroadcast_begins (identify_kept args) m seq) e
      | false => cases c
    | _ => cases c

/-- Settles O57: a tick and the queue of commands are no matter of the reports, and every row keeps their list. -/
theorem reportsStayInOrder : Obligations.ReportsStayInOrder := by
  unfold Obligations.ReportsStayInOrder
  intro s t h e
  unfold step at e
  split at e
  · cases e
    unfold State.tick
    split <;> exact h
  · next c rest _ => exact exec_reportsOk (s := { s with pending := rest }) h e

end Sys2Proof.Machine.ReportLaws
end

section
/-! ACK and RETRY_DEADLINE (R180 to R182): the outstanding report, wherever it stands in the list, is settled, sent again
or given up, and the first report left is sent in the same event. -/

namespace Sys2Proof.Machine.ReportLaws

open DeliveryLaws

variable {s : State} {pre post ys : List Report} {r y : Report} {m : Arrival} {seq : Byte}

/-! ## The send at the end of an event -/

/-- A report whose next send is due. -/
def dueAgain (r : Report) : Report := { r with retry := none }

/-- A report whose first or next send is made at `now` (R180). -/
def sentOnce (now : CTime) (r : Report) : Report := { r with sends := r.sends + 1, retry := some (now + 250) }

/-- The state after the send of the outstanding report `r`, between `pre` and `post` (R180). -/
def sentBetween (pre : List Report) (r : Report) (post : List Report) (s : State) : State :=
  { s.enqueue s.agent.params.reportSide (r.sent s.agent.params (r.sends + 1)) with
    events :=
      { s.events with
        reports := pre ++ sentOnce s.now r :: post
        counters := { s.events.counters with sends := bump s.events.counters.sends } } }

/-- The send of the outstanding report toward a side with room (R180). -/
theorem sendReport_around (around : Around pre r post s.events.reports) (room : s.Room s.agent.params.reportSide) :
    s.sendReport r = sentBetween pre r post s := by
  have listed : s.events.reports.map (Report.sentAt s.now) = pre ++ sentOnce s.now r :: post := by
    rw [around.map fun y off => by simp [Report.sentAt, off]]
    congr 2
    exact if_pos around.out
  unfold State.sendReport sentBetween
  rw [show r.frame s.agent.params = r.sent s.agent.params (r.sends + 1) from rfl, State.admit_room room (.inr rfl),
    ← listed]
  rfl

/-- With nothing in the making, the end of an event is the send that is due. -/
theorem settle_made (made : ∀ z ∈ s.events.reports, z.making = false)
    (after : ∀ z ∈ s.sendDue.events.reports, z.making = false) : s.settle = s.sendDue := by
  have fixed : ∀ u : State, (∀ z ∈ u.events.reports, z.making = false) → u.fixSnapshots = u := fun u h =>
    congrArg (fun e => { u with events := e }) (Events.fixSnapshots_of_made _ h)
  unfold State.settle
  rw [fixed s made, fixed _ after]

/-- The send that is due is made, or with no station the list is given up (R180, R181). -/
theorem sendDue_around (around : Around pre r post s.events.reports) (due : r.retry = none) :
    s.sendDue =
      if s.agent.params.reportStation = 4095 then
        (s.withReports []).countEvents fun c => { c with givenUp := satAdd c.givenUp s.events.reports.length }
      else s.sendReport r := by
  unfold State.sendDue
  rw [around.outstanding]
  simp only [due, Option.isSome_none, Bool.false_eq_true, if_false]
  rfl

/-- The end of an event that makes the outstanding report's send due: with a station and room it is sent (R180). -/
theorem settle_sends (around : Around pre r post s.events.reports) (made : ∀ z ∈ s.events.reports, z.making = false)
    (due : r.retry = none) (station : s.agent.params.reportStation ≠ 4095)
    (room : s.Room s.agent.params.reportSide) : s.settle = sentBetween pre r post s := by
  have sent : s.sendDue = sentBetween pre r post s := by
    rw [sendDue_around around due, if_neg station, sendReport_around around room]
  refine (settle_made made ?_).trans sent
  rw [sent]
  rw [around.list, List.forall_mem_append, List.forall_mem_cons] at made
  exact List.forall_mem_append.2 ⟨made.1, List.forall_mem_cons.2 made.2⟩

/-- The end of an event that makes the outstanding report's send due: with no station the list is given up (R181). -/
theorem settle_givesUp (around : Around pre r post s.events.reports) (made : ∀ z ∈ s.events.reports, z.making = false)
    (due : r.retry = none) (nobody : s.agent.params.reportStation = 4095) :
    s.settle = (s.withReports []).countEvents fun c =>
      { c with givenUp := satAdd c.givenUp s.events.reports.length } := by
  have given := sendDue_around around due
  rw [if_pos nobody] at given
  rw [settle_made made (by rw [given]; exact List.forall_mem_nil _), given]

/-- The list with the outstanding report's send due again. -/
theorem Around.again {rs : List Report} (h : Around pre r post rs) :
    Around pre (dueAgain r) post (pre ++ dueAgain r :: post) := ⟨rfl, h.out, h.others⟩

/-- With nothing to settle no report is in the making, also when the outstanding one is sent again or taken off. -/
theorem Around.made (h : Around pre r post s.events.reports) (quiet : s.Quiet) :
    (∀ z ∈ pre ++ dueAgain r :: post, z.making = false) ∧ ∀ z ∈ pre ++ post, z.making = false := by
  have made : ∀ z ∈ pre ++ r :: post, z.making = false := fun z mem => (quiet z (h.list ▸ mem)).1
  simp only [List.forall_mem_append, List.forall_mem_cons] at made ⊢
  obtain ⟨front, here, back⟩ := made
  exact ⟨⟨front, here, back⟩, front, back⟩

/-- A report made outstanding stands before the others (R180). -/
theorem around_promote (off : ∀ z ∈ y :: ys, z.outstanding = false) :
    Around [] (promoted y) ys (promote (y :: ys)) :=
  ⟨rfl, rfl, (List.forall_mem_cons.1 off).2⟩

theorem promote_made {rs : List Report} (made : ∀ z ∈ rs, z.making = false) : ∀ z ∈ promote rs, z.making = false := by
  cases rs with
  | nil => exact made
  | cons z zs => exact List.forall_mem_cons.2 (List.forall_mem_cons.1 made)

/-- The first report left, sent at the end of the event that took the outstanding one off the list (R181, R182). -/
theorem settle_promoted (count : EventCounters → EventCounters) (off : ∀ z ∈ y :: ys, z.outstanding = false)
    (made : ∀ z ∈ y :: ys, z.making = false) (station : s.agent.params.reportStation ≠ 4095)
    (room : s.Room s.agent.params.reportSide) :
    ((s.withReports (promote (y :: ys))).countEvents count).settle =
      { s.enqueue s.agent.params.reportSide (y.sent s.agent.params 1) with
        events :=
          { s.events with
            reports := { y with outstanding := true, sends := 1, retry := some (s.now + 250) } :: ys
            counters :=
              { count s.events.counters with sends := bump (count s.events.counters).sends } } } := by
  rw [settle_sends (s := (s.withReports (promote (y :: ys))).countEvents count) (around_promote off)
    (promote_made made) rfl station room]
  unfold sentBetween
  rfl

/-! ## ACK (R182) -/

theorem exec_ack (hears : s.Hears m) :
    exec (.ack m seq) s = .next ((s.handed m).takeAck m.source seq).settle :=
  arrival_heard hears (ackPayload seq) (State.takeAck m.source seq)

/-- An ACK that settles no report is counted, and nothing else happens. -/
theorem exec_ack_ignored (hears : s.Hears m) (quiet : s.Quiet) (other : s.ackSettles m.source seq = false) :
    exec (.ack m seq) s =
      .next { s.handed m with
        events :=
          { s.events with counters := { s.events.counters with ignoredAck := bump s.events.counters.ignoredAck } } } := by
  have ignored : (s.handed m).takeAck m.source seq = (s.handed m).countEvents fun c =>
      { c with ignoredAck := bump c.ignoredAck } :=
    if_neg (by rw [show (s.handed m).ackSettles m.source seq = s.ackSettles m.source seq from rfl, other]; decide)
  rw [exec_ack hears, ignored]
  exact congrArg Host.Outcome.next (State.settle_of_quiet ((State.quiet_congr (s := s) rfl).2 quiet))

/-- An ACK that settles the outstanding report takes it off the list (R182). -/
theorem takeAck_settles (around : Around pre r post s.events.reports)
    (station : m.source = s.agent.params.reportStation) (same : r.seq = seq) :
    (s.handed m).takeAck m.source seq =
      ((s.handed m).withReports (promote (pre ++ post))).countEvents fun c =>
        { c with acknowledged := bump c.acknowledged } := by
  have settles : (s.handed m).ackSettles m.source seq = true := by
    unfold State.ackSettles
    rw [show (s.handed m).events = s.events from rfl, around.outstanding]
    simp [station, same, State.handed, State.heard]
  unfold State.takeAck
  rw [if_pos settles, show (s.handed m).events = s.events from rfl, around.retired]

/-! ## RETRY_DEADLINE (R181) -/

theorem exec_retryDeadline (running : s.phase = .running) :
    exec .retryDeadline s = .next s.retryReport.settle := congrArg Host.Outcome.next (event_running running)

/-- After fewer than 4 sends the outstanding report's next send is due. -/
theorem retryReport_again (around : Around pre r post s.events.reports) (past : due s.now r.retry = true)
    (few : r.sends < 4) : s.retryReport = s.withReports (pre ++ dueAgain r :: post) := by
  have listed : s.events.reports.map Report.sendAgain = pre ++ dueAgain r :: post := by
    rw [around.map fun y off => by simp [Report.sendAgain, off]]
    congr 2
    exact if_pos around.out
  unfold State.retryReport
  rw [around.outstanding]
  simp only [past, if_true, listed]
  exact if_pos few

/-- After 4 sends the outstanding report is given up. -/
theorem retryReport_givesUp (around : Around pre r post s.events.reports) (past : due s.now r.retry = true)
    (all : r.sends = 4) :
    s.retryReport = (s.withReports (promote (pre ++ post))).countEvents fun c =>
      { c with givenUp := bump c.givenUp } := by
  unfold State.retryReport
  rw [around.outstanding]
  simp only [past, if_true, around.retired]
  exact if_neg (by rw [all]; decide)

/-- With no station and at most 4 sends, the outstanding report and all others are given up (R181). -/
theorem retry_nobody (around : Around pre r post s.events.reports) (quiet : s.Quiet)
    (past : due s.now r.retry = true) (most : r.sends ≤ 4) (nobody : s.agent.params.reportStation = 4095) :
    s.retryReport.settle = (s.withReports []).countEvents fun c =>
      { c with givenUp := satAdd c.givenUp s.events.reports.length } := by
  obtain ⟨again, rest⟩ := around.made quiet
  have count : s.events.reports.length = (pre ++ post).length + 1 := by
    rw [around.list]; simp only [List.length_append, List.length_cons]; omega
  rcases Nat.lt_or_eq_of_le most with few | all
  · have given := settle_givesUp (s := s.withReports (pre ++ dueAgain r :: post)) (r := dueAgain r) around.again again
      rfl nobody
    have same : (pre ++ dueAgain r :: post).length = s.events.reports.length := by rw [around.list]; simp
    rw [retryReport_again around past few, given, ← same]
    rfl
  · rw [retryReport_givesUp around past all]
    have off := around.others
    cases left : pre ++ post with
    | nil =>
      rw [count, left]
      exact State.settle_of_quiet (List.forall_mem_nil _)
    | cons y ys =>
      rw [left] at rest off count
      have given := settle_givesUp (r := promoted y)
        (s := (s.withReports (promote (y :: ys))).countEvents fun c => { c with givenUp := bump c.givenUp })
        (around_promote off) (promote_made rest) rfl nobody
      have sum (c : Counter) : satAdd c (ys.length + 1 + 1) = satAdd (bump c) (ys.length + 1) := by
        rw [bump, satAdd_satAdd, Nat.add_comm 1]
      rw [given, count, List.length_cons]
      simp only [sum]
      rfl

/-- Settles O49: the outstanding report is taken off the list or its send made due, and the end of the event makes the
send that is due, or with no station gives the list up. -/
theorem reportsAreSettled : Obligations.ReportsAreSettled := by
  unfold Obligations.ReportsAreSettled
  refine ⟨fun m seq s hears quiet => ⟨fun empty => ?_, fun pre post r list out others => ?_⟩,
    fun pre post r d s running quiet list out others timer past => ?_⟩
  · exact exec_ack_ignored hears quiet (by unfold State.ackSettles; rw [empty]; rfl)
  · have around : Around pre r post s.events.reports := ⟨list, out, others⟩
    obtain ⟨-, rest⟩ := around.made quiet
    refine ⟨fun other => ?_, fun station same none_left => ?_, fun y ys station same left room => ?_⟩
    · refine exec_ack_ignored hears quiet ?_
      unfold State.ackSettles
      rw [around.outstanding]
      rcases other with h | h <;> simp [h]
    · rw [exec_ack hears, takeAck_settles around station same, none_left]
      exact congrArg Host.Outcome.next (State.settle_of_quiet (List.forall_mem_nil _))
    · obtain ⟨-, -, present, -⟩ := id hears
      have somebody : s.agent.params.reportStation ≠ 4095 := station ▸ present
      have reach : (s.handed m).Room s.agent.params.reportSide := delivered_room (m := m) room
      rw [exec_ack hears, takeAck_settles around station same, left]
      rw [left] at others rest
      exact congrArg Host.Outcome.next (settle_promoted (s := s.handed m) _ others rest somebody reach)
  · have around : Around pre r post s.events.reports := ⟨list, out, others⟩
    obtain ⟨again, rest⟩ := around.made quiet
    have ends : due s.now r.retry = true := by rw [timer]; exact past
    rw [exec_retryDeadline running]
    refine ⟨fun station room few => ?_, fun all none_left => ?_, fun y ys station all left room => ?_,
      fun nobody most => ?_⟩
    · rw [retryReport_again around ends few]
      have sent : (s.withReports (pre ++ dueAgain r :: post)).settle =
          sentBetween pre (dueAgain r) post (s.withReports (pre ++ dueAgain r :: post)) :=
        settle_sends around.again again rfl station room
      rw [sent]
      rfl
    · rw [retryReport_givesUp around ends all, none_left]
      exact congrArg Host.Outcome.next (State.settle_of_quiet (List.forall_mem_nil _))
    · rw [retryReport_givesUp around ends all, left]
      rw [left] at others rest
      exact congrArg Host.Outcome.next (settle_promoted _ others rest station room)
    · exact congrArg Host.Outcome.next (retry_nobody around quiet ends most nobody)

end Sys2Proof.Machine.ReportLaws
end

section
/-! The rows of power, reset and start-up are the only ones that change the phase, and the only ones that a part which
does not run takes (R190, R192). -/

namespace Sys2Proof.Machine.PhaseLaws

open SettingsLaws

variable {s t : State}

/-! ## Operations of the blocks -/

/-- An operation that leaves the phase as it finds it. -/
def KeepsPhase (f : State → State) : Prop := ∀ s, (f s).phase = s.phase

/-- What leaves the standing part leaves the phase. -/
theorem phase_of_standing (e : standing t = standing s) : t.phase = s.phase := congrArg Standing.phase e

theorem abortTransfer_phase (s : State) : s.abortTransfer.phase = s.phase :=
  congrArg Steady.phase s.steady_abortTransfer

theorem endSession_phase (s : State) : s.endSession.phase = s.phase := abortTransfer_phase s

theorem expireLease_phase : KeepsPhase State.expireLease := by
  intro s
  unfold State.expireLease
  repeat' split
  · exact endSession_phase s
  all_goals rfl

theorem expireTransfer_phase : KeepsPhase State.expireTransfer := by
  intro s
  unfold State.expireTransfer
  repeat' split
  · exact abortTransfer_phase s
  all_goals rfl

theorem completeStore_phase (verified : Bool) : KeepsPhase (State.completeStore verified) := by
  intro s
  unfold State.completeStore State.endStore
  repeat' split
  all_goals rfl

/-! ## Commands -/

/-- A command whose rule and whose refusal leave the phase as they find it. -/
structure PhaseKept (c : Command) : Prop where
  run    : ∀ s, (c.run s).1.phase = s.phase
  refuse : ∀ s, (c.refuse s).1.phase = s.phase

variable {run : State → State × Reply} {code : Byte}

theorem openCommand_phase (h : ∀ s, (run s).1.phase = s.phase) : PhaseKept (openCommand code run) := ⟨h, fun _ => rfl⟩

theorem ownerCommand_phase (h : ∀ s, (run s).1.phase = s.phase) : PhaseKept (ownerCommand code run) :=
  ⟨h, fun _ => rfl⟩

theorem noArguments_phase (h : ∀ s, (run s).1.phase = s.phase) (args : Payload) (s : State) :
    (noArguments args run s).1.phase = s.phase := by
  unfold noArguments
  split
  · exact h s
  · rfl

theorem inClean_phase (h : ∀ s, (run s).1.phase = s.phase) (s : State) : (inClean run s).1.phase = s.phase := by
  unfold inClean
  split
  · rfl
  · exact h s

theorem openSession_phase (m : Arrival) (seq : Byte) (args : Payload) : PhaseKept (openSessionCommand m seq args) := by
  refine openCommand_phase fun s => ?_
  unfold runOpen
  dsimp only
  repeat' split
  all_goals rfl

theorem close_phase (args : Payload) : PhaseKept (closeCommand args) :=
  ownerCommand_phase (noArguments_phase endSession_phase args)

theorem status_phase (m : Arrival) (args : Payload) : PhaseKept (statusCommand m args) := by
  refine openCommand_phase fun s => ?_
  repeat' split
  all_goals rfl

theorem readCounters_phase (args : Payload) : PhaseKept (readCountersCommand args) := by
  refine openCommand_phase fun s => ?_
  repeat' split
  all_goals rfl

theorem clearAllSets_phase (s : State) : s.clearAllSets.phase = s.phase :=
  List.foldlRecOn (motive := fun u : State => u.phase = s.phase) (List.range 13) _ rfl fun u h n _ =>
    (phase_of_standing (clearSet_standing u n)).trans h

theorem clearCounters_phase (args : Payload) : PhaseKept (clearCountersCommand args) := by
  refine ownerCommand_phase fun s => ?_
  repeat' split
  · exact clearAllSets_phase s
  · exact phase_of_standing (clearSet_standing s _)
  all_goals rfl

theorem readEntry_phase (args : Payload) : PhaseKept (readEntryCommand args) := by
  refine openCommand_phase fun s => ?_
  dsimp only
  repeat' split
  all_goals rfl

theorem writeEntry_phase (args : Payload) : PhaseKept (writeEntryCommand args) := by
  refine ownerCommand_phase fun s => ?_
  repeat' split
  · rfl
  · exact inClean_phase (fun _ => rfl) s
  · exact inClean_phase (fun _ => rfl) s
  · rfl

theorem writeMasksDefaults_phase (args : Payload) : PhaseKept (writeMasksDefaultsCommand args) := by
  refine ownerCommand_phase fun s => ?_
  split
  · rfl
  · refine inClean_phase (fun u => ?_) s
    split <;> rfl

theorem copyActive_phase (args : Payload) : PhaseKept (copyActiveCommand args) := by
  refine ownerCommand_phase (noArguments_phase (fun s => ?_) args)
  unfold runCopyActive
  split <;> rfl

theorem commit_phase (args : Payload) : PhaseKept (commitCommand args) := by
  refine ownerCommand_phase (noArguments_phase (inClean_phase fun s => ?_) args)
  unfold runCommit
  split <;> rfl

theorem loadBegin_phase (args : Payload) : PhaseKept (loadBeginCommand args) := by
  refine ownerCommand_phase fun s => ?_
  unfold runLoadBegin
  repeat' split
  all_goals rfl

theorem loadPart_phase (args : Payload) : PhaseKept (loadPartCommand args) := by
  refine ⟨fun s => ?_, fun s => phase_of_standing (refuseLoadPart_stands _ args s)⟩
  dsimp only [loadPartCommand]
  split
  · unfold runLoadPart
    repeat' split
    · rfl
    · rfl
    · rfl
    · rfl
    · exact abortTransfer_phase s
    · rfl
    · rfl
  · exact phase_of_standing (refuseLoadPart_stands _ _ s)

theorem loadEnd_phase (args : Payload) : PhaseKept (loadEndCommand args) := by
  refine ownerCommand_phase fun s => ?_
  unfold runLoadEnd
  repeat' split
  · rfl
  · rfl
  · exact abortTransfer_phase s
  · exact abortTransfer_phase s
  all_goals rfl

theorem readRecord_phase (args : Payload) : PhaseKept (readRecordCommand args) := by
  have read (s : State) (i : Fin 48) (page : Nat) : (s.readout i page).1.phase = s.phase := by
    unfold State.readout
    split <;> rfl
  refine openCommand_phase fun s => ?_
  repeat' split
  · exact read s _ _
  · rfl
  · rfl
  · exact read s _ _
  all_goals rfl

theorem readQueries_phase (args : Payload) : PhaseKept (readQueriesCommand args) := by
  refine openCommand_phase fun s => ?_
  repeat' split
  all_goals rfl

theorem cancelTag_phase (args : Payload) : PhaseKept (cancelTagCommand args) := by
  refine ownerCommand_phase fun s => ?_
  repeat' split
  · exact phase_of_standing (standing_of_grows (s.grows_cancelTag _ _))
  all_goals rfl

theorem sideAction_phase {side : Side} {action : SideAction} (e : s.sideAction side action = some t) :
    t.phase = s.phase := by
  unfold State.sideAction at e
  split at e <;> cases e
  · rfl
  · change (s.abortAttempt side).phase = s.phase
    exact phase_of_standing (abortAttempt_standing s side)
  · rfl
  · rfl

theorem sideControl_phase (args : Payload) : PhaseKept (sideControlCommand args) := by
  refine ownerCommand_phase fun s => ?_
  unfold runSideControl
  repeat' split
  · next acted => exact sideAction_phase acted
  all_goals rfl

theorem setConfig_phase (args : Payload) : PhaseKept (setConfigCommand args) := by
  have reread (u : State) (c : FClass) : ((u.rereadAge .a c).rereadAge .b c).phase = u.phase :=
    phase_of_standing (standing_of_grows ((u.grows_rereadAge .a c).trans (State.grows_rereadAge _ .b c)))
  have set (s : State) (i : ParamId) (v : BitVec 16) : (s.configure i v).phase = s.phase := by
    unfold State.configure
    dsimp only
    split
    · exact reread (s.withParams _) _
    · rfl
  refine ownerCommand_phase fun s => ?_
  repeat' split
  · rfl
  · rfl
  · rfl
  · exact set s _ _
  · rfl

theorem readConfig_phase (args : Payload) : PhaseKept (readConfigCommand args) := by
  refine openCommand_phase fun s => ?_
  dsimp only
  repeat' split
  all_goals rfl

theorem setTrip_phase (args : Payload) : PhaseKept (setTripCommand args) := by
  refine ownerCommand_phase fun s => ?_
  unfold runSetTrip
  repeat' split
  all_goals rfl

theorem releaseTrip_phase (args : Payload) : PhaseKept (releaseTripCommand args) := by
  refine ownerCommand_phase (noArguments_phase (fun s => ?_) args)
  unfold runReleaseTrip
  split <;> rfl

theorem readEvents_phase (args : Payload) : PhaseKept (readEventsCommand args) := by
  refine openCommand_phase fun s => ?_
  repeat' split
  all_goals rfl

theorem clearEvents_phase (args : Payload) : PhaseKept (clearEventsCommand args) := by
  refine ownerCommand_phase fun s => ?_
  split <;> rfl

theorem enableEvents_phase (args : Payload) : PhaseKept (enableEventsCommand args) := by
  refine ownerCommand_phase fun s => ?_
  split
  · exact phase_of_standing (settle_standing { s with events := _ })
  · rfl

theorem store_phase (args : Payload) : PhaseKept (storeCommand args) := by
  have read (s : State) (i : SlotId) : (s.slotReadout i).1.phase = s.phase := by
    unfold State.slotReadout
    split <;> rfl
  refine ownerCommand_phase (noArguments_phase (fun s => ?_) args)
  unfold runStore
  split
  · rfl
  · exact (read _ .one).trans (read s.beginStore .zero)

theorem restart_phase (args : Payload) : PhaseKept (restartCommand args) := by
  refine ⟨noArguments_phase (fun s => ?_) args, fun _ => rfl⟩
  unfold runRestart
  split
  · rfl
  · change s.restartAll.phase = s.phase
    rw [RestartLaws.restartAll_eq]
    exact abortTransfer_phase (RestartLaws.emptied s)

/-- Every command leaves the phase. -/
theorem commandFor_phase (m : Arrival) (seq code : Byte) (args : Payload) : PhaseKept (commandFor m seq code args) := by
  unfold commandFor
  split
  · exact openCommand_phase (noArguments_phase (fun _ => rfl) args)
  · exact openSession_phase m seq args
  · exact close_phase args
  · exact status_phase m args
  · exact readCounters_phase args
  · exact clearCounters_phase args
  · exact readEntry_phase args
  · exact writeEntry_phase args
  · exact writeMasksDefaults_phase args
  · exact copyActive_phase args
  · exact commit_phase args
  · exact loadBegin_phase args
  · exact loadPart_phase args
  · exact loadEnd_phase args
  · exact readRecord_phase args
  · exact ownerCommand_phase (noArguments_phase (fun _ => rfl) args)
  · exact readQueries_phase args
  · exact cancelTag_phase args
  · exact sideControl_phase args
  · exact setConfig_phase args
  · exact readConfig_phase args
  · exact setTrip_phase args
  · exact releaseTrip_phase args
  · exact readEvents_phase args
  · exact clearEvents_phase args
  · exact enableEvents_phase args
  · exact store_phase args
  · exact restart_phase args
  · exact openCommand_phase fun _ => rfl

/-! ## The agent and the rows -/

theorem finish_phase (s : State) (first : Bool) (m : Arrival) (r : Response) :
    (s.finish first m r).phase = s.phase := by
  obtain ⟨y, kept⟩ := AgentLaws.keepResponse_session s m r
  have steady := congrArg Steady.phase (finish_steady (s := s) (m := m) first r)
  rw [kept] at steady
  exact steady

/-- A COMMAND taken by the agent (R144). -/
theorem take_phase {c : Command} (hc : PhaseKept c) (m : Arrival) (seq : Byte) : KeepsPhase (State.take m seq c) := by
  intro s
  have decided : (s.countCommand.decideCommand m c).1.phase = s.phase := by
    unfold State.decideCommand
    split
    · exact hc.refuse _
    · exact hc.run _
  unfold State.take
  split
  · unfold State.answerDuplicate
    exact (phase_of_standing (respond_standing _ m _)).trans rfl
  · split
    next eq => rw [eq] at decided; exact (finish_phase _ _ m _).trans decided

theorem takeBroadcast_phase {c : Command} (hc : PhaseKept c) (m : Arrival) (seq : Byte) :
    KeepsPhase (State.takeBroadcast m seq c) := by
  intro s
  have ran := hc.run s.countCommand
  unfold State.takeBroadcast
  split
  next eq =>
    rw [eq] at ran
    exact ((phase_of_standing (respond_standing _ m _)).trans (phase_of_standing (settle_standing _))).trans ran

/-- What the agent does with a message, whatever it is (R143). -/
theorem agentTakes_phase (m : Arrival) (toAll : Bool) (payload : Payload) :
    KeepsPhase (State.agentTakes m toAll payload) := by
  intro s
  unfold State.agentTakes State.takeAnnouncement State.takeMessage
  split
  · repeat' split
    · rfl
    · exact takeBroadcast_phase (openCommand_phase (noArguments_phase (fun _ => rfl) _)) m _ s
    · rfl
    · exact take_phase (commandFor_phase m _ _ _) m _ s
    · exact phase_of_standing (takeAck_standing s _ _)
    · rfl
    · rfl
  · rfl

theorem classifyMgmt_phase {agent : State → State} (ha : KeepsPhase agent) (side : Side) (f : Frame)
    (dst src : Station) : KeepsPhase (State.classifyMgmt side f dst src agent) := by
  intro s
  have handed := ha (s.countClassifier side fun c => { c with mgmtTaken := bump c.mgmtTaken })
  unfold State.classifyMgmt
  dsimp only
  repeat' split
  · rfl
  · exact handed
  · exact (phase_of_standing (forwardMgmt_standing _ side f)).trans handed
  · exact phase_of_standing (forwardMgmt_standing (s.countClassifier side _) side f)

theorem endOfFrame_phase {take : State → State} (ht : KeepsPhase take) (side : Side) :
    KeepsPhase (State.endOfFrame side take) := by
  intro s
  rcases s.endOfFrame_cases side take with ⟨-, e⟩ | ⟨-, -, e⟩ | ⟨-, -, e⟩ <;> rw [e]
  · rfl
  · rfl
  · exact ht s

theorem receive_phase (side : Side) (bytes : List Byte) : KeepsPhase (State.receive side bytes) := by
  have classified (f : Frame) : KeepsPhase (State.classify side f) := by
    intro s
    unfold State.classify
    split
    · exact phase_of_standing (classifyData_standing s side _ _ f)
    · exact phase_of_standing (classifyQuery_standing s side _ _ f)
    · exact classifyMgmt_phase (agentTakes_phase _ _ _) side f _ _ s
    · rfl
  refine endOfFrame_phase (fun s => ?_) side
  split
  · exact classified _ ((s.acknowledge side true).countPort side _)
  · rfl

theorem event_phase {f : State → State} (hf : KeepsPhase f) (s : State) : (s.event f).phase = s.phase := by
  unfold State.event
  split
  · exact (phase_of_standing (settle_standing _)).trans (hf s)
  · rfl

theorem arrival_phase {fits toAll : Bool} {m : Arrival} {payload : Payload} {agent : State → State}
    (ha : KeepsPhase agent) (e : arrival fits m toAll payload agent s = .next t) : t.phase = s.phase := by
  have arrives : KeepsPhase (State.arrive m toAll payload agent) := fun u =>
    endOfFrame_phase (fun v => classifyMgmt_phase ha m.side _ _ m.source
      ((v.acknowledge m.side true).countPort m.side _)) m.side u
  unfold arrival at e
  split at e <;> cases e
  exact event_phase arrives s

/-- Only the rows of power, reset and start-up change the phase (R190, R192). -/
theorem exec_phase {i : Instr} (other : i.isPowerEvent = false) (e : exec i s = .next t) : t.phase = s.phase := by
  have event (f : State → State) (kept : ∀ u, standing (f u) = standing u) : (s.event f).phase = s.phase :=
    event_phase (fun u => phase_of_standing (kept u)) s
  cases c : i.command with
  | some x =>
    obtain ⟨m, seq, code⟩ := x
    rw [(CommandRows.command_row (CommandRows.wellFormed_of_next e) c).2] at e
    exact arrival_phase (take_phase (commandFor_phase m seq code i.args) m seq) e
  | none =>
    cases i with
    | rstNLow | powerLoss | startUp | startingEnd => cases other
    | reception side bytes => cases e; exact event_phase (receive_phase side bytes) s
    | transmitterSelection side => cases e; exact event _ (select_standing · side)
    | lineWaitExpiry side =>
      cases e
      refine event _ fun u => ?_
      split
      · exact endAttempt_standing u side .lineError
      · rfl
    | attemptCompletion side outcome => cases e; exact event _ (endAttempt_standing · side outcome)
    | recoveryDeadline side => cases e; exact event _ (autoRecover_standing · side)
    | ageDeadline side place => cases e; exact event _ (ageOut_standing · side place)
    | freshnessDeadline record => cases e; exact event _ fun _ => rfl
    | queryEntryDeadline place => cases e; exact event _ (timeoutQuery_standing · place)
    | windowDeadline => cases e; exact event _ lapseWindow_standing
    | leaseDeadline => cases e; exact event_phase expireLease_phase s
    | idleDeadline => cases e; exact event_phase expireTransfer_phase s
    | retryDeadline => cases e; exact event _ retryReport_standing
    | storeCompletion verified => cases e; exact event_phase (completeStore_phase verified) s
    | ack m seq =>
      change arrival true m false (ackPayload seq) (State.takeAck m.source seq) s = .next t at e
      exact arrival_phase (fun u => phase_of_standing (takeAck_standing u m.source seq)) e
    | badMessage m toAll payload => exact arrival_phase (agent := State.countBadMessage) (fun _ => rfl) e
    | ignoredMessage m toAll payload => exact arrival_phase (agent := State.countIgnoredMessage) (fun _ => rfl) e
    | identify m toAll seq args =>
      cases toAll with
      | true =>
        exact arrival_phase
          (takeBroadcast_phase (openCommand_phase (noArguments_phase (fun _ => rfl) args)) m seq) e
      | false => cases c
    | _ => cases c

/-! ## The part that does not run -/

theorem event_halted {f : State → State} (halted : s.phase ≠ .running) : s.event f = s :=
  if_neg (by simpa [State.running] using halted)

theorem arrival_halted {fits toAll : Bool} {m : Arrival} {payload : Payload} {agent : State → State}
    (halted : s.phase ≠ .running) (fit : fits = true) : arrival fits m toAll payload agent s = .next s := by
  unfold arrival
  rw [if_pos fit, event_halted halted]

/-- No event of any block is taken while the part does not run (R190). -/
theorem exec_halted {i : Instr} (halted : s.phase ≠ .running) (other : i.isPowerEvent = false)
    (fits : i.wellFormed = true) : exec i s = .next s := by
  cases i with
  | rstNLow | powerLoss | startUp | startingEnd => cases other
  | reception | transmitterSelection | lineWaitExpiry | attemptCompletion | recoveryDeadline | ageDeadline
  | freshnessDeadline | queryEntryDeadline | windowDeadline | leaseDeadline | idleDeadline | retryDeadline
  | storeCompletion => exact congrArg Host.Outcome.next (event_halted halted)
  | ack | sideControlOff | sideControlOn | sideControlRecover => exact arrival_halted halted rfl
  | _ => exact arrival_halted halted fits

/-- A part that starts or stops holds nothing in progress, with ISOL low (R190, R192). -/
theorem started_heldOk (img : Image) {store : ImageStore} (idle : store.store = none) (free : Nat)
    (pending : List Instr) (phase : Phase) :
    ({ State.started img store free pending with phase := phase } : State).HeldOk :=
  fun _ => ⟨rfl, idle, rfl, ⟨rfl, rfl⟩, rfl, rfl⟩

/-- Outside STARTING there is no end of it (log entry 6). -/
theorem endStarting_other (other : s.phase ≠ .starting) (busyA busyB : Bool) : s.endStarting busyA busyB = s := by
  unfold State.endStarting
  split
  · contradiction
  all_goals rfl

/-- The end of STARTING leaves a part that runs (R192). -/
theorem endStarting_heldOk (h : s.HeldOk) (busyA busyB : Bool) : (s.endStarting busyA busyB).HeldOk := by
  by_cases starting : s.phase = .starting
  · obtain ⟨u, answer, running, -⟩ := ReceptionLaws.startingEndSetsTheImageFlag busyA busyB s starting
    cases answer
    exact fun halted => absurd running halted
  · rw [endStarting_other starting]
    exact h

theorem exec_heldOk (h : s.HeldOk) {i : Instr} (e : exec i s = .next t) : t.HeldOk := by
  cases power : i.isPowerEvent with
  | true =>
    cases i with
    | rstNLow => cases e; exact started_heldOk _ rfl _ _ .held
    | powerLoss => cases e; exact started_heldOk _ rfl _ _ .unpowered
    | startUp => cases e; exact started_heldOk _ rfl _ _ .starting
    | startingEnd busyA busyB => cases e; exact endStarting_heldOk h busyA busyB
    | _ => cases power
  | false =>
    intro halted
    have halted_before : s.phase ≠ .running := exec_phase power e ▸ halted
    rw [exec_halted halted_before power (CommandRows.wellFormed_of_next e)] at e
    cases e
    exact h halted

/-- Settles O3: a row other than the four either finds the part halted and does nothing, or leaves it running. -/
theorem nothingIsTakenWhileNotRunning : Obligations.NothingIsTakenWhileNotRunning := by
  unfold Obligations.NothingIsTakenWhileNotRunning
  refine ⟨fun c s halted other fits => exec_halted halted other fits, fun s t h e => ?_⟩
  unfold step at e
  split at e
  · cases e
    unfold State.tick
    split <;> exact h
  · next c rest _ => exact exec_heldOk (s := { s with pending := rest }) h e

end Sys2Proof.Machine.PhaseLaws
end

section
/-! Start-up from the slots: the newest image and what is loaded (R186, R190), a write that a reset or a power loss cuts
off (R189), and the part stopped (R189, R190). -/

namespace Sys2Proof.Machine.StartUpLaws

variable {s : State} {x : ImageStore}

/-! ## The newest image (R186) -/

theorem newerSeq_iff {a b : BitVec 32} : newerSeq a b = true ↔ 1 ≤ (a - b).toNat ∧ (a - b).toNat ≤ 2147483647 := by
  simp [newerSeq]

/-- The image of slot `i` is the newest when that of the other slot, if any, does not come before it (R186). -/
def Leads (x : ImageStore) (i : SlotId) (img : Image) : Prop :=
  ∀ other, (x.slot i.other).image = some other →
    match i with
    | .one => newerSeq img.seq other.seq = true
    | .zero => newerSeq other.seq img.seq = false

/-- A VALID slot that leads holds the newest image. -/
theorem newest_some {i : SlotId} {img : Image} (valid : (x.slot i).image = some img) (leads : Leads x i img) :
    x.newest = some (i, img) := by
  unfold ImageStore.newest
  cases i with
  | zero =>
    rw [show x.slot0.image = some img from valid]
    cases rival : x.slot1.image with
    | none => rfl
    | some other =>
      have older : newerSeq other.seq img.seq = false := leads other rival
      simp [older]
  | one =>
    rw [show x.slot1.image = some img from valid]
    cases rival : x.slot0.image with
    | none => rfl
    | some other =>
      have newer : newerSeq img.seq other.seq = true := leads other rival
      simp [newer]

/-! ## What start-up loads (R190) -/

/-- A start-up that finds a newest image loads it, and IMAGE_FALLBACK is due just when the other slot is DAMAGED (R190
step 4). -/
theorem startUp_newest {strap : BitVec 4} {fm c0 c1 : Bool} {i : SlotId} {img : Image}
    (newest : (s.image.examined strap fm c0 c1).newest = some (i, img)) :
    s.startUp strap fm c0 c1 =
      State.started img
        { s.image.examined strap fm c0 c1 with
          loaded := some i
          flagDue :=
            if ((s.image.examined strap fm c0 c1).slot i.other).state = .damaged then some .imageFallback else none }
        s.free s.pending := by
  unfold State.startUp ImageStore.startImage ImageStore.startFlag
  dsimp only
  rw [newest]
  rfl

/-- Settles O5: the slot named leads, so it holds the newest image. -/
theorem startUpLoadsTheNewestImage : Obligations.StartUpLoadsTheNewestImage := by
  unfold Obligations.StartUpLoadsTheNewestImage
  intro strap fm c0 c1 s x i img slot0 slot1 valid order
  have same (k : SlotId) : (s.image.examined strap fm c0 c1).slot k = x.slot k := by
    cases k with
    | zero => exact slot0.symm
    | one => exact slot1.symm
  have leads : Leads (s.image.examined strap fm c0 c1) i img := by
    intro other rival
    rw [same] at rival
    cases i with
    | zero => exact Bool.eq_false_iff.2 (mt newerSeq_iff.1 (order other rival))
    | one => exact newerSeq_iff.2 (order other rival)
  have newest := newest_some ((congrArg Slot.image (same i)).trans valid) leads
  refine ⟨s.startUp strap fm c0 c1, rfl, ?_⟩
  rw [startUp_newest newest, same]
  exact ⟨rfl, same .zero, same .one, rfl, rfl, rfl, rfl, rfl, rfl, rfl, rfl⟩

/-! ## A write cut off (R189) -/

/-- Whatever its check value says, a slot whose write was not finished is found DAMAGED (R189, R190 step 3). -/
theorem examined_written (img : Image) (check : Bool) : ((Slot.written img).examined check).state = .damaged := by
  simp [Slot.examined, Slot.written]

theorem examined_verified (img : Image) : (Slot.verified img).examined true = Slot.verified img := by
  simp [Slot.examined, Slot.verified]

/-- The outcome of the check of each slot's check value (R190 step 3). -/
def checkOf (c0 c1 : Bool) : SlotId → Bool
  | .zero => c0
  | .one => c1

theorem examined_slot (x : ImageStore) (strap : BitVec 4) (fm c0 c1 : Bool) (i : SlotId) :
    (x.examined strap fm c0 c1).slot i = (x.slot i).examined (checkOf c0 c1 i) := by cases i <;> rfl

@[simp] theorem other_other (i : SlotId) : i.other.other = i := by cases i <;> rfl

/-- A reset and a power loss leave the slots and end the write in progress (R189). -/
theorem exec_cut {cut : Instr} (is : cut = .rstNLow ∨ cut = .powerLoss) (s : State) :
    ∃ u, exec cut s = .next u ∧ ∀ i, u.image.slot i = s.image.slot i := by
  rcases is with rfl | rfl
  · exact ⟨s.stopped .held, rfl, fun i => by cases i <;> rfl⟩
  · exact ⟨s.stopped .unpowered, rfl, fun i => by cases i <;> rfl⟩

/-- Settles O8: the target of the write is found DAMAGED, so the other slot leads when it is VALID. -/
theorem aCutWriteIsFoundDamaged : Obligations.ACutWriteIsFoundDamaged := by
  unfold Obligations.ACutWriteIsFoundDamaged
  intro strap fm c0 c1 s w cut _ written is
  obtain ⟨u, answer, slots⟩ := exec_cut is s
  have found (i : SlotId) : (u.image.examined strap fm c0 c1).slot i = (s.image.slot i).examined (checkOf c0 c1 i) := by
    rw [examined_slot, slots]
  have spoiled : ((u.image.examined strap fm c0 c1).slot w.target).state = .damaged := by
    rw [found, written]
    exact examined_written _ _
  refine ⟨u, u.startUp strap fm c0 c1, answer, rfl, ?_, rfl, fun img other ok0 ok1 => ?_⟩
  · have kept : (u.startUp strap fm c0 c1).image.slot w.target =
        (u.image.examined strap fm c0 c1).slot w.target := by cases w.target <;> rfl
    rw [kept]
    exact spoiled
  · have checks : checkOf c0 c1 w.target.other = true := by cases w.target <;> assumption
    have valid : ((u.image.examined strap fm c0 c1).slot w.target.other).image = some img := by
      rw [found, other, checks, examined_verified]
      rfl
    have alone : Leads (u.image.examined strap fm c0 c1) w.target.other img := by
      intro rival there
      rw [other_other, image_none (by rw [spoiled]; decide)] at there
      cases there
    rw [startUp_newest (newest_some valid alone), other_other, if_pos spoiled]
    exact ⟨rfl, rfl, rfl⟩

/-! ## Reset and power loss (R189, R190) -/

/-- Settles O4: both are the part stopped, in their own phase. -/
theorem resetAndPowerLossHoldThePart : Obligations.ResetAndPowerLossHoldThePart := by
  unfold Obligations.ResetAndPowerLossHoldThePart
  intro s
  refine ⟨s.stopped .held, s.stopped .unpowered, rfl, rfl, rfl, rfl, ?_⟩
  rintro v (rfl | rfl)
  · exact ⟨rfl, rfl, rfl, rfl, rfl, rfl, rfl, rfl, rfl⟩
  · exact ⟨rfl, rfl, rfl, rfl, rfl, rfl, rfl, rfl, rfl⟩

end Sys2Proof.Machine.StartUpLaws
end

section
/-! STORE and STORE_COMPLETION (R187, R188): the write of a snapshot into the slot that does not hold the newest image,
from its begin to its end. -/

namespace Sys2Proof.Machine.StoreLaws

open DeliveryLaws AgentLaws

variable {s : State} {m : Arrival} {seq : Byte} {w : Storing}

/-! ## STORE (R187) -/

/-- The readout of a slot is five bytes and takes free bytes at most (log entry 2). -/
theorem slotReadout_fields (s : State) (i : SlotId) :
    ∃ n bytes, s.slotReadout i = ({ s with free := n }, bytes) ∧ bytes.length = 5 := by
  unfold State.slotReadout
  split
  · exact ⟨s.free, _, rfl, rfl⟩
  · exact ⟨s.free + 4, _, rfl, congrArg Nat.succ (PayloadLaws.takeFree_length 4 s)⟩

/-- STORE in IDLE begins the write, and its response begins with the target and the sequence (R187, Table 12-12). -/
theorem store_run (idle : s.image.store = none) :
    ∃ n args, (storeCommand []).run s = ({ s.beginStore with free := n }, ⟨.ok, args⟩) ∧ args.length = 15 ∧
      args.take 5 = s.image.target.code :: be32 s.image.nextSeq := by
  obtain ⟨n0, slot0, read0, five0⟩ := slotReadout_fields s.beginStore .zero
  obtain ⟨n1, slot1, read1, five1⟩ := slotReadout_fields { s.beginStore with free := n0 } .one
  have run : (storeCommand []).run s = runStore s := rfl
  refine ⟨n1, s.image.target.code :: (be32 s.image.nextSeq ++ slot0 ++ slot1), ?_, ?_, rfl⟩
  · rw [run, runStore, idle]
    dsimp only [State.storeReply]
    rw [read0]
    dsimp only
    rw [read1]
    rfl
  · simp [be32, five0, five1]

/-- With no VALID slot the target is slot 0 and the sequence 1; else the target is the slot that does not hold the
newest image, and the sequence follows that image's (R187 steps 2 and 3). -/
theorem target_eq {x : ImageStore} {target : SlotId} {next : BitVec 32}
    (first : x.newest = none → target = .zero ∧ next = 1)
    (later : ∀ i img, x.newest = some (i, img) → target = i.other ∧ next = img.seq + 1) :
    x.target = target ∧ x.nextSeq = next := by
  unfold ImageStore.target ImageStore.nextSeq
  cases newest : x.newest with
  | none => obtain ⟨rfl, rfl⟩ := first newest; exact ⟨rfl, rfl⟩
  | some found =>
    obtain ⟨i, img⟩ := found
    obtain ⟨rfl, rfl⟩ := later i img newest
    exact ⟨rfl, rfl⟩

/-! ## STORE_COMPLETION (R188) -/

/-- The completion of a write that has taken 200 ms is the end of that write. -/
theorem exec_completion (verified : Bool) (running : s.phase = .running) (writing : s.image.store = some w)
    (past : 200 ≤ (s.now - w.since).toNat) :
    exec (.storeCompletion verified) s = .next (s.endStore verified w).settle := by
  have late : Config.storeEarliest ≤ s.now - w.since := BitVec.le_def.2 past
  have completed : s.completeStore verified = s.endStore verified w := by
    unfold State.completeStore
    rw [writing]
    exact if_pos late
  have event : exec (.storeCompletion verified) s = .next (s.event (State.completeStore verified)) := rfl
  rw [event, event_running running, completed]

/-- The end of an event that changes the image store and sets a flag: nothing else changes where no report can be made,
and the steady part but for the image store in any case. -/
theorem imageFlag_settle (s : State) (x : ImageStore) (f : Flag) :
    (({ s with image := x }.setFlag f).settle).events.has f = true ∧
      (s.Unreported → s.Leaves ({ s with image := x }.setFlag f).settle [f]) ∧
      ({ s with image := x }.setFlag f).settle.steady = { s.steady with image := x } := by
  refine ⟨settle_has _ f, fun unreported => ?_, ?_⟩
  · rw [settle_mark (s := { s with image := x }) unreported]
    rfl
  · rw [State.steady_settle, State.steady_setFlag]
    rfl

/-- Settles O50: the write begun and answered, and its end by either outcome of the verify. -/
theorem storesRunToTheirEnd : Obligations.StoresRunToTheirEnd := by
  unfold Obligations.StoresRunToTheirEnd
  refine ⟨fun m seq x s target next hears idle first later => ?_, fun w s running writing past => ⟨?_, ?_⟩⟩
  · obtain ⟨rfl, rfl⟩ := target_eq first later
    obtain ⟨new, owned⟩ := HearsOwner.lets hears
    obtain ⟨heard, session, own, -⟩ := hears
    obtain ⟨n, args, run, length, front⟩ := store_run (s := s.delivered m) idle
    set u : State := { (s.delivered m).beginStore with free := n } with hu
    have event : exec (.store m seq []) s = .next (u.finish true m ⟨seq, 0x1B, .ok, args⟩).settle :=
      exec_new (args := []) (storeCommand []) rfl heard new (fun _ => owned) rfl run
    refine ⟨_, args, event, length, front, fun quiet room => ⟨n, ?_⟩, ?_⟩
    · rw [finish_room (s := u) (delivered_quiet (m := m) quiet) (delivered_room (m := m) room), State.Leaves,
        answeredBy_rest]
      rfl
    · have begun : u.steady = { s.steady with image := s.beginStore.image } := by
        rw [← State.steady_delivered s m]
        rfl
      rw [State.steady_settle, finish_steady, keepResponse_owner (s := u) _ session own,
        State.steady_withSession, begun]
      rfl
  · exact ⟨_, exec_completion true running writing past, imageFlag_settle s _ .storeDone⟩
  · exact ⟨_, exec_completion false running writing past, imageFlag_settle s _ .storeFailed⟩

end Sys2Proof.Machine.StoreLaws
end

section
/-! The reset state (log entry 1): it meets the invariants, and a factory start-up with the straps low leads to it (R190
to R192). -/

namespace Sys2Proof.Machine.ResetLaws

variable {s : State}

/-! ## The invariants -/

/-- A port that starts agrees with its empty queue (R114). -/
theorem started_agrees (on : Bool) : (Port.started on).Agrees [] := by
  refine ⟨rfl, fun _ => rfl, ?_, fun waiting => nomatch waiting⟩
  cases on
  · exact Nat.zero_le _
  · exact Nat.zero_lt_succ _

/-- A BLANK slot is sound (R186). -/
theorem blank_sound : (⟨.blank, none⟩ : Slot).Sound := ⟨by simp, by simp⟩

theorem reset_settings : State.reset.SessionOk ∧ State.reset.SettingsOk :=
  SettingsLaws.proper_iff.1
    (SettingsLaws.resting_proper (x := ImageStore.blank) (SettingsLaws.factory_inRange 0) blank_sound blank_sound rfl
      .running [])

/-- Every invariant holds of the reset state, which runs with empty queues and lists. -/
theorem reset_invariants :
    State.reset.PoolOk ∧ State.reset.OrderOk ∧ State.reset.LineOk ∧ State.reset.trip.Coherent ∧
      State.reset.RecordsOk ∧ State.reset.ReportsOk ∧ State.reset.SessionOk ∧ State.reset.SettingsOk ∧
      State.reset.PayloadsOk ∧ State.reset.HeldOk := by
  obtain ⟨session, settings⟩ := reset_settings
  exact ⟨⟨Nat.zero_le _, Nat.zero_le _, Nat.zero_le _⟩, ⟨.nil, .nil⟩, ⟨started_agrees true, started_agrees true⟩,
    TripLaws.coherent_started _, RecordLaws.started_recordsOk (Image.factory 0 false) ImageStore.blank 0 [],
    ReportLaws.reportsOk_of_empty rfl, session, settings,
    PayloadLaws.started_ok (Image.factory 0 false) ImageStore.blank 0 [] .running, fun halted => absurd rfl halted⟩

/-! ## The factory start-up -/

theorem examined_blank {x : Slot} (blank : x.cells = none) (check : Bool) : x.examined check = ⟨.blank, none⟩ := by
  cases x
  cases blank
  rfl

/-- With BLANK slots and the straps low, start-up leaves the blank store's factory state with IMAGE_ABSENT due (R190
step 5, R191). -/
theorem startUp_blank {c0 c1 : Bool} (blank0 : s.image.slot0.cells = none) (blank1 : s.image.slot1.cells = none) :
    s.startUp 0 false c0 c1 =
      State.started (Image.factory 0 false) { ImageStore.blank with flagDue := some .imageAbsent } s.free
        s.pending := by
  have slot0 := examined_blank blank0 c0
  have slot1 := examined_blank blank1 c1
  rw [StartUpLaws.startUp_factory (by rw [slot0]; decide) (by rw [slot1]; decide)]
  unfold ImageStore.examined
  rw [slot0, slot1]
  rfl

/-- IMAGE_ABSENT is the one flag set at reset (R190, R192). -/
theorem mark_imageAbsent :
    Events.mark ⟨⟨0, 0, 0, 0⟩, Events.allFlags, [], 0, EventCounters.zero⟩ .imageAbsent = State.reset.events := by
  decide

/-- Settles O60: no report can be made at the end of such a start-up, so IMAGE_ABSENT is set and nothing else
happens. -/
theorem resetIsAStartUpThatMeetsTheInvariants : Obligations.ResetIsAStartUpThatMeetsTheInvariants := by
  unfold Obligations.ResetIsAStartUpThatMeetsTheInvariants
  refine ⟨reset_invariants, fun c0 c1 s blank0 blank1 => ⟨s.startUp 0 false c0 c1, rfl, ?_⟩⟩
  rw [startUp_blank blank0 blank1]
  set u := State.started (Image.factory 0 false) { ImageStore.blank with flagDue := some .imageAbsent } s.free s.pending
  have unreported : (ReceptionLaws.begun false false u).Unreported := ⟨nofun, rfl⟩
  have ended : u.endStarting false false = ((ReceptionLaws.begun false false u).setFlag .imageAbsent).settle :=
    ReceptionLaws.endStarting_eq rfl
  have marked : (ReceptionLaws.begun false false u).events.mark .imageAbsent = State.reset.events :=
    mark_imageAbsent
  change Host.Outcome.next (u.endStarting false false) = _
  rw [ended, DeliveryLaws.settle_mark unreported, marked]
  rfl

end Sys2Proof.Machine.ResetLaws
end

section
/-! Reading back what is written (spec/12): the bytes of a frame on the line (R193, Table 12-1) and the 12 bytes of a
steering entry (R194, Table 12-5). A written byte sets fields side by side, a read byte takes slices, so both sides of
each statement come down to the same equations between fields and slices. -/

namespace Sys2Proof.Machine.EncodingLaws

/-! ## Fields side by side and slices -/

/-- Two fields side by side make a slice just when each makes its part of it. -/
theorem append_eq_slice_iff {m n w start : Nat} {x : BitVec m} {y : BitVec n} {b : BitVec w} :
    x ++ y = b.extractLsb' start (m + n) ↔ x = b.extractLsb' (start + n) m ∧ y = b.extractLsb' start n := by
  rw [← BitVec.extractLsb'_append_extractLsb'_eq_extractLsb' rfl]
  refine ⟨fun same => ?_, fun ⟨high, low⟩ => by rw [high, low]⟩
  have high := congrArg (BitVec.extractLsb' n m) same
  have low := congrArg (BitVec.extractLsb' 0 n) same
  simp only [BitVec.extractLsb'_append_eq_left, BitVec.extractLsb'_append_eq_right] at high low
  exact ⟨high, low⟩

/-- Two fields side by side make a whole word just when each makes its part of it. -/
theorem append_eq_iff {m n : Nat} {x : BitVec m} {y : BitVec n} {b : BitVec (m + n)} :
    x ++ y = b ↔ x = b.extractLsb' n m ∧ y = b.extractLsb' 0 n := by
  have parts := append_eq_slice_iff (x := x) (y := y) (b := b) (start := 0)
  rwa [BitVec.extractLsb'_eq_self, Nat.zero_add] at parts

theorem ofBool_eq_slice_iff {n k : Nat} {b : BitVec n} {x : Bool} :
    BitVec.ofBool x = b.extractLsb' k 1 ↔ b.getLsbD k = x := by
  simp [BitVec.eq_of_getLsbD_eq_iff, eq_comm]

/-! ## Tags and words -/

theorem readTag_eq_iff {h m l : Byte} {t : Tag} :
    readTag h m l = t ↔ t.extractLsb' 16 4 = h.extractLsb' 0 4 ∧ t.extractLsb' 8 8 = m ∧ t.extractLsb' 0 8 = l := by
  have parts : readTag h m l = t ↔ _ := append_eq_iff.trans (and_congr_left' append_eq_slice_iff)
  rw [parts, and_assoc, eq_comm, eq_comm (a := m), eq_comm (a := l)]

theorem append_bytes_eq_iff {h l : Byte} {w : BitVec 16} :
    h ++ l = w ↔ w.extractLsb' 8 8 = h ∧ w.extractLsb' 0 8 = l := by
  rw [append_eq_iff, eq_comm, eq_comm (a := l)]

/-- Three bytes that write a tag are an argument that names it (R194). -/
theorem tagBytes_eq_iff {h m l : Byte} {t : Tag} : tagBytes t = [h, m, l] ↔ argTag h m l = some t := by
  have top : 0#4 ++ t.extractLsb' 16 4 = h ↔ h.extractLsb' 4 4 = 0 ∧ t.extractLsb' 16 4 = h.extractLsb' 0 4 :=
    append_eq_iff.trans (and_congr_left' eq_comm)
  simp only [tagBytes, argTag, List.cons.injEq, and_true, top, Option.ite_none_right_eq_some, Option.some.injEq,
    readTag_eq_iff, and_assoc]

theorem readTag_of_tagBytes {h m l : Byte} {t : Tag} (written : tagBytes t = [h, m, l]) : readTag h m l = t := by
  have named := tagBytes_eq_iff.1 written
  rw [argTag, Option.ite_none_right_eq_some, Option.some.injEq] at named
  exact named.2

/-! ## The codes of an entry's fields -/

theorem matchMode_code_iff {mode : MatchMode} {c : BitVec 3} : mode.code = c ↔ MatchMode.ofCode c = some mode := by
  cases mode with
  | exact => revert c; decide
  | mask n => revert n c; decide
  | any => revert c; decide

theorem action_code_iff {action : Action} {c : BitVec 2} : action.code = c ↔ Action.ofCode c = action := by
  revert c; cases action <;> decide

theorem filter_code_iff {filter : Filter} {c : BitVec 2} : filter.code = c ↔ Filter.ofCode c = filter := by
  revert c; cases filter <;> decide

theorem classSetting_code_iff {setting : Option FClass} {c : BitVec 3} :
    classSettingCode setting = c ↔ classSettingOfCode c = some setting := by
  cases setting with
  | none => revert c; decide
  | some cls => revert cls c; decide

theorem tripField_code_iff {source : Option (Fin 4)} {c : BitVec 3} :
    tripFieldCode source = c ↔ tripFieldOfCode c = some source := by
  cases source with
  | none => revert c; decide
  | some k => revert k c; decide

/-! ## Frames (R193, Table 12-1) -/

theorem headByte_eq_iff {kind : BitVec 2} {reply : Bool} {cls : FClass} {hop : Hop} {b : Byte} :
    kind ++ BitVec.ofBool reply ++ cls ++ hop = b ↔
      kind = b.extractLsb' 6 2 ∧ b.getLsbD 5 = reply ∧ cls = b.extractLsb' 3 2 ∧ hop = b.extractLsb' 0 3 := by
  rw [append_eq_iff, append_eq_slice_iff, append_eq_slice_iff, ofBool_eq_slice_iff, and_assoc, and_assoc]

/-- The destination's low bits share byte 2 with other four bits below them. -/
theorem destination_joined (dst : Station) (low : BitVec 4) :
    dst.extractLsb' 4 8 ++ (dst.extractLsb' 0 4 ++ low).extractLsb' 4 4 = dst := by
  rw [BitVec.extractLsb'_append_eq_left]
  exact append_eq_iff.2 ⟨rfl, rfl⟩

/-- The source's high bits share byte 2 with other four bits above them. -/
theorem source_joined (high : BitVec 4) (src : Station) :
    (high ++ src.extractLsb' 8 4).extractLsb' 0 4 ++ src.extractLsb' 0 8 = src := by
  rw [BitVec.extractLsb'_append_eq_right]
  exact append_eq_iff.2 ⟨rfl, rfl⟩

/-- A frame's body is read from its address bytes and a byte 0 that holds its kind and Reply bit. -/
theorem readBody_addressBytes {body : Body} {b0 : Byte} (kind : body.kindBits = b0.extractLsb' 6 2)
    (reply : b0.getLsbD 5 = body.replyBit) :
    ∃ b1 b2 b3, body.addressBytes = [b1, b2, b3] ∧ readBody b0 b1 b2 b3 = body := by
  cases body with
  | data r t => exact ⟨_, _, _, rfl, by simp only [readBody, ← kind, reply, readTag_of_tagBytes (t := t) rfl]; rfl⟩
  | query r t => exact ⟨_, _, _, rfl, by simp only [readBody, ← kind, reply, readTag_of_tagBytes (t := t) rfl]; rfl⟩
  | mgmt r dst src =>
    exact ⟨_, _, _, rfl, by simp only [readBody, ← kind, reply, destination_joined, source_joined]; rfl⟩
  | unknown => exact ⟨_, _, _, rfl, by simp only [readBody, ← kind]; rfl⟩

/-- A port verifies the bytes that a transmitter sends for a frame and reads the frame from them (R96, R193). -/
theorem readFrame_bytes (f : Frame) (fits : f.payload.length ≤ Config.payload) : readFrame f.bytes = some f := by
  obtain ⟨body, cls, hop, payload⟩ := f
  obtain ⟨kindBits, replyBit, clsBits, hopBits⟩ :=
    (headByte_eq_iff (kind := body.kindBits) (reply := body.replyBit) (cls := cls) (hop := hop)).1 rfl
  obtain ⟨b1, b2, b3, address, read⟩ := readBody_addressBytes kindBits replyBit
  have count : (countByte payload.length).toNat = payload.length :=
    ReadLaws.countByte_toNat (Nat.lt_of_le_of_lt fits (by decide))
  simp only [Frame.bytes, Frame.checked, address, List.cons_append, List.nil_append, readFrame, count, List.take_left',
    List.drop_left', List.length_append]
  rw [if_pos ⟨fits, rfl, trivial⟩, read, ← clsBits, ← hopBits]

/-! ## Steering entries (R194, Table 12-5) -/

/-- Twelve bytes hold an entry's fields where Table 12-5 puts them, and the unused bits of bytes 2 and 5 are clear. -/
def Holds (e : Entry) : Payload → Prop
  | [b0, b1, b2, b3, b4, b5, b6, b7, b8, b9, b10, b11] =>
    (b0.getLsbD 7 = e.inUse ∧ b0.getLsbD 6 = e.onB ∧ b0.getLsbD 5 = e.onA ∧ b0.getLsbD 4 = e.query ∧
        b0.getLsbD 3 = e.data ∧ MatchMode.ofCode (b0.extractLsb' 0 3) = some e.mode) ∧
      (Action.ofCode (b1.extractLsb' 6 2) = e.action ∧ b1.getLsbD 5 = e.keepItem ∧
        classSettingOfCode (b1.extractLsb' 2 3) = some e.setClass ∧ Filter.ofCode (b1.extractLsb' 0 2) = e.filter) ∧
      (b2.getLsbD 7 = false ∧ tripFieldOfCode (b2.extractLsb' 4 3) = some e.trip) ∧ readTag b2 b3 b4 = e.tag ∧
      argTag b5 b6 b7 = some e.rewriteTag ∧ b8 ++ b9 = e.window ∧ b10 ++ b11 = e.freshness
  | _ => False

theorem ofBytes_eq_some_iff (e : Entry) (bytes : Payload) : Entry.ofBytes bytes = some e ↔ Holds e bytes := by
  constructor
  · intro read
    unfold Entry.ofBytes at read
    split at read
    · split at read
      · next mode setClass trip rewriteTag =>
        split at read
        · cases read
        · next unused =>
          cases read
          exact ⟨⟨rfl, rfl, rfl, rfl, rfl, mode⟩, ⟨rfl, rfl, setClass, rfl⟩, ⟨Bool.eq_false_iff.2 unused, trip⟩, rfl,
            rewriteTag, rfl, rfl⟩
      · cases read
    · cases read
  · intro held
    unfold Holds at held
    split at held
    · obtain ⟨⟨inUse, onB, onA, query, data, mode⟩, ⟨action, keepItem, setClass, filter⟩, ⟨unused, trip⟩, tag,
        rewriteTag, window, freshness⟩ := held
      simp only [Entry.ofBytes, mode, setClass, trip, rewriteTag, unused, inUse, onB, onA, query, data, action,
        keepItem, filter, tag, window, freshness]
      rfl
    · exact held.elim

theorem matchByte_eq_iff {inUse onB onA query data : Bool} {mode : MatchMode} {b : Byte} :
    BitVec.ofBool inUse ++ BitVec.ofBool onB ++ BitVec.ofBool onA ++ BitVec.ofBool query ++ BitVec.ofBool data ++
        mode.code = b ↔
      b.getLsbD 7 = inUse ∧ b.getLsbD 6 = onB ∧ b.getLsbD 5 = onA ∧ b.getLsbD 4 = query ∧ b.getLsbD 3 = data ∧
        MatchMode.ofCode (b.extractLsb' 0 3) = some mode := by
  rw [append_eq_iff, append_eq_slice_iff, append_eq_slice_iff, append_eq_slice_iff, append_eq_slice_iff]
  simp only [ofBool_eq_slice_iff, matchMode_code_iff, and_assoc, Nat.reduceAdd]

theorem actionByte_eq_iff {action : Action} {keepItem : Bool} {setClass : Option FClass} {filter : Filter} {b : Byte} :
    action.code ++ BitVec.ofBool keepItem ++ classSettingCode setClass ++ filter.code = b ↔
      Action.ofCode (b.extractLsb' 6 2) = action ∧ b.getLsbD 5 = keepItem ∧
        classSettingOfCode (b.extractLsb' 2 3) = some setClass ∧ Filter.ofCode (b.extractLsb' 0 2) = filter := by
  rw [append_eq_iff, append_eq_slice_iff, append_eq_slice_iff]
  simp only [ofBool_eq_slice_iff, action_code_iff, classSetting_code_iff, filter_code_iff, and_assoc, Nat.reduceAdd]

theorem tripByte_eq_iff {trip : Option (Fin 4)} {high : BitVec 4} {b : Byte} :
    0#1 ++ tripFieldCode trip ++ high = b ↔
      (b.getLsbD 7 = false ∧ tripFieldOfCode (b.extractLsb' 4 3) = some trip) ∧ high = b.extractLsb' 0 4 := by
  have clear : 0#1 = b.extractLsb' 7 1 ↔ b.getLsbD 7 = false := ofBool_eq_slice_iff (x := false)
  rw [append_eq_iff, append_eq_slice_iff, tripField_code_iff, clear]

theorem bytes_eq_iff (e : Entry) (bytes : Payload) : e.bytes = bytes ↔ Holds e bytes := by
  unfold Holds
  split
  · next b0 b1 b2 b3 b4 b5 b6 b7 b8 b9 b10 b11 =>
    have tag := tagBytes_eq_iff (h := b5) (m := b6) (l := b7) (t := e.rewriteTag)
    simp only [tagBytes, List.cons.injEq, and_true] at tag
    simp only [Entry.bytes, tagBytes, be16, List.cons_append, List.nil_append, List.cons.injEq, and_true,
      matchByte_eq_iff, actionByte_eq_iff, tripByte_eq_iff, readTag_eq_iff, append_bytes_eq_iff, ← tag, and_assoc]
  · next other => exact ⟨fun written => other _ _ _ _ _ _ _ _ _ _ _ _ written.symm, nofun⟩

/-- Settles O51: the frame by its bytes, and the entry because reading and writing both say that the bytes hold its
fields. -/
theorem framesAndEntriesReadBack : Obligations.FramesAndEntriesReadBack := by
  unfold Obligations.FramesAndEntriesReadBack
  exact ⟨readFrame_bytes, fun e bytes => (ofBytes_eq_some_iff e bytes).trans (bytes_eq_iff e bytes).symm⟩

end Sys2Proof.Machine.EncodingLaws
end

section
/-! What a step does by the queue of commands (spec/00_scope.md 5.4): the command at its front, or coupler time. -/

namespace Sys2Proof.Machine.StepLaws

variable {s : State}

theorem step_of_command {c : Instr} {rest : List Instr} (waiting : s.pending = c :: rest) :
    step s = exec c { s with pending := rest } := by
  rw [step, waiting]

theorem step_of_no_command (empty : s.pending = []) : step s = .next s.tick := by
  rw [step, empty]

theorem tick_of_running (running : s.phase = .running) : s.tick = { s with now := s.now + 1 } :=
  if_pos (decide_eq_true running)

theorem tick_of_halted (halted : s.phase ≠ .running) : s.tick = s :=
  if_neg (mt of_decide_eq_true halted)

/-- Settles O1: by the front of the queue, and on an empty queue by whether the part runs. -/
theorem stepTakesTheFront : Obligations.StepTakesTheFront := by
  unfold Obligations.StepTakesTheFront
  refine ⟨fun c rest s waiting => step_of_command waiting, fun s empty running => ?_, fun s empty halted => ?_⟩
  · rw [step_of_no_command empty, tick_of_running running]
  · rw [step_of_no_command empty, tick_of_halted halted]

end Sys2Proof.Machine.StepLaws
end

section
/-! A good frame that a port takes (R96): what the classifier makes of it, settled; the hop test and the hand-off to the
far side (R24, R26); and the settlement of a query by a reply, which leaves all but the records and the list (R61). -/

namespace Sys2Proof.Machine.ForwardLaws

open DeliveryLaws

variable {s t u : State} {side : Side} {f : Frame}

/-! ## A good frame taken at a port (R96) -/

theorem exec_received (takes : s.Receives side) (fits : f.payload.length ≤ Config.payload) :
    exec (.reception side f.bytes) s = .next ((s.heard side).classify side f).settle := by
  have good : (s.acknowledge side true).countPort side (fun c => { c with receivedGood := bump c.receivedGood }) =
      s.heard side := by cases side <;> rfl
  have received : s.receive side f.bytes = (s.heard side).classify side f := by
    unfold State.receive
    rw [State.endOfFrame_receives takes, EncodingLaws.readFrame_bytes f fits]
    exact congrArg (State.classify side f) good
  rw [ReceptionLaws.exec_reception takes.1, received]

/-- Where the classifier leaves nothing to settle, its outcome is the event's. -/
theorem exec_received_quiet (takes : s.Receives side) (fits : f.payload.length ≤ Config.payload)
    (classified : (s.heard side).classify side f = u) (quiet : u.Quiet) :
    exec (.reception side f.bytes) s = .next u := by
  rw [exec_received takes fits, classified, State.settle_of_quiet quiet]

/-- Room reads the side states, the queues and the ceilings. -/
theorem room_congr (ports : ∀ x, (t.ports.get x).state = (s.ports.get x).state)
    (queues : t.queues.frames = s.queues.frames) (params : t.agent.params = s.agent.params) : t.Room side ↔ s.Room side := by
  simp only [State.Room, ports, queues, params]

theorem heard_state (s : State) (side x : Side) : ((s.heard side).ports.get x).state = (s.ports.get x).state := by
  cases side <;> cases x <;> rfl

/-- Two counts of the classifier are one. -/
theorem countClassifier_twice (s : State) (side : Side) (f g : ClassifierCounters → ClassifierCounters) :
    (s.countClassifier side f).countClassifier side g = s.countClassifier side fun c => g (f c) := by
  cases side <;> rfl

/-! ## The hop test and the hand-off (R24, R26) -/

/-- A frame with hops left crosses where the far side has room. -/
theorem forward_crosses (hops : f.hop ≠ 0) (room : s.Room side.far)
    (lets : s.trip.state ≠ .tripped ∨ f.traffic = false) :
    s.forward side f =
      ((s.countClassifier side fun c => { c with forwarded := bump c.forwarded }).enqueue side.far
        { f with hop := f.hop - 1 }, some .queued) := by
  have admitted := State.admit_room (f := { f with hop := f.hop - 1 })
    (s := s.countClassifier side fun c => { c with forwarded := bump c.forwarded }) room lets
  unfold State.forward
  rw [if_neg hops, admitted]

/-- A frame without hops left is dropped and the flag set. -/
theorem forward_expires (spent : f.hop = 0) :
    s.forward side f =
      ((s.countClassifier side fun c => { c with hopExpired := bump c.hopExpired }).setFlag .hopExpired, none) :=
  if_pos spent

/-- An event that ends with a flag set: the flag stands, and what it may report touches the queues and the event unit
alone; where no report can be made it does no more. -/
theorem flagged_event {i : Instr} {flag : Flag} (event : exec i s = .next (u.setFlag flag).settle) :
    ∃ t, exec i s = .next t ∧ t.steady = u.steady ∧ t.banks = u.banks ∧ t.agent = u.agent ∧
      t.events.has flag = true ∧ (u.Unreported → u.Leaves t [flag]) := by
  have grown : u.Grows (u.setFlag flag).settle := (u.grows_setFlag flag).trans (State.grows_settle _)
  obtain ⟨-, -, banks, -, -, -, -, agent, -⟩ := grown.rest
  refine ⟨_, event, grown.steady, banks, agent, settle_has u flag, fun unreported => ?_⟩
  rw [settle_mark unreported]
  rfl

/-- An event that ends with the hand-off of a frame that the trip unit lets pass: across with its hop less one where the
far side has room, or dropped as *hop-expired* with the flag set. -/
theorem forward_event {i : Instr} (event : exec i s = .next (u.forward side f).1.settle) (quiet : u.Quiet)
    (lets : u.trip.state ≠ .tripped ∨ f.traffic = false) :
    (f.hop ≠ 0 → u.Room side.far →
      exec i s =
        .next
          ((u.countClassifier side fun c => { c with forwarded := bump c.forwarded }).enqueue side.far
            { f with hop := f.hop - 1 })) ∧
    (f.hop = 0 →
      let dropped := u.countClassifier side fun c => { c with hopExpired := bump c.hopExpired }
      ∃ t, exec i s = .next t ∧ t.steady = dropped.steady ∧ t.banks = dropped.banks ∧ t.agent = dropped.agent ∧
        t.events.has .hopExpired = true ∧ (u.agent.params.reportStation = 4095 → dropped.Leaves t [.hopExpired])) := by
  refine ⟨fun hops room => ?_, fun spent => ?_⟩
  · rw [event, forward_crosses hops room lets]
    exact congrArg Host.Outcome.next (State.settle_of_quiet (s := State.enqueue _ _ _) quiet)
  · rw [forward_expires spent] at event
    obtain ⟨t, next, steady, banks, agent, set, leaves⟩ := flagged_event event
    exact ⟨t, next, steady, banks, agent, set, fun nobody => leaves ⟨quiet, nobody⟩⟩

/-- Whatever admission makes of it, a frame with hops left changes the queues and the event unit alone, but for its
count. -/
theorem grows_forward (hops : f.hop ≠ 0) :
    (s.countClassifier side fun c => { c with forwarded := bump c.forwarded }).Grows (s.forward side f).1 := by
  unfold State.forward
  rw [if_neg hops]
  exact State.grows_admit _ _ _

/-! ## Settlement by a reply (R61) -/

/-- A DATA frame with Reply set settles, any other does not. -/
def settledIf (reply : Bool) (side : Side) (tag : Tag) (s : State) : State :=
  if reply then s.settleReply side tag else s

/-- Settlement is a matter of the records and of the outstanding list with its counters. -/
theorem settledIf_eq (reply : Bool) (side : Side) (tag : Tag) (s : State) :
    ∃ tags proxy, settledIf reply side tag s = { s with tags := tags, proxy := proxy } := by
  unfold settledIf State.settleReply
  repeat' split
  · exact ⟨_, _, rfl⟩
  · exact ⟨_, _, rfl⟩
  · exact ⟨_, _, rfl⟩

theorem settledIf_countClassifier (reply : Bool) (side : Side) (tag : Tag) (s : State)
    (g : ClassifierCounters → ClassifierCounters) :
    settledIf reply side tag (s.countClassifier side g) = (settledIf reply side tag s).countClassifier side g := by
  cases reply with
  | false => rfl
  | true =>
    change (s.countClassifier side g).settleReply side tag = (s.settleReply side tag).countClassifier side g
    unfold State.settleReply
    rw [State.countClassifier_proxy]
    cases s.proxy.find side tag with
    | none => rfl
    | some q => rfl

end Sys2Proof.Machine.ForwardLaws
end

section
/-! The classifier (spec/01): the match scan (R13), malformed and gated frames (R16, R17) and frames that no entry
claims (R11, R18, R19). -/

namespace Sys2Proof.Machine.ClassifierLaws

open DeliveryLaws ForwardLaws

variable {s u : State} {side : Side} {f : Frame} {reply : Bool} {tag : Tag}

/-! ## The match scan (R4, R13) -/

/-- Two tags agree under a mask just when they agree at each bit of it (R4). -/
theorem masked_eq_iff {t x mask : Tag} :
    t &&& mask = x &&& mask ↔ ∀ k : Fin 20, mask.getLsbD k.val = true → t.getLsbD k.val = x.getLsbD k.val := by
  rw [BitVec.eq_of_getLsbD_eq_iff]
  constructor
  · intro agree k set
    have at_k := agree k.val k.isLt
    rwa [BitVec.getLsbD_and, BitVec.getLsbD_and, set, Bool.and_true, Bool.and_true] at at_k
  · intro agree i below
    rw [BitVec.getLsbD_and, BitVec.getLsbD_and]
    cases set : mask.getLsbD i with
    | false => rw [Bool.and_false, Bool.and_false]
    | true => rw [agree ⟨i, below⟩ set]

theorem claims_iff {e : Entry} {h : BankHeader} {query : Bool} :
    e.claims h side query tag = true ↔ e.Claims h side query tag := by
  unfold Entry.claims Entry.Claims
  rw [Bool.and_eq_true, Bool.and_eq_true, Bool.and_eq_true, and_assoc, and_assoc]
  refine and_congr_right fun _ => and_congr ?onSide (and_congr ?kind ?tags)
  case onSide => cases side <;> exact Iff.rfl
  case kind => cases query <;> exact Iff.rfl
  case tags =>
    unfold Entry.matchesTag
    cases e.mode with
    | exact => exact beq_iff_eq
    | mask n => exact beq_iff_eq.trans masked_eq_iff
    | any => exact iff_of_true rfl trivial

/-- Settles O12: the scan finds the first index whose entry claims the frame. -/
theorem theLowestMatchingEntryWins : Obligations.TheLowestMatchingEntryWins := by
  unfold Obligations.TheLowestMatchingEntryWins
  intro b side query tag
  refine ⟨fun i => ?_, ?_⟩
  · have scan := List.find?_eq_some_iff_getElem (xs := List.finRange 64)
      (p := fun i => (b.entries[i]).claims b.header side query tag) (b := i)
    simp only [List.getElem_finRange, List.length_finRange, claims_iff] at scan
    refine scan.trans (and_congr_right fun _ => ⟨?_, fun none => ?_⟩)
    · rintro ⟨n, below, rfl, none⟩ j lt
      simpa [claims_iff, ← claims_iff] using none j.val lt
    · exact ⟨i.val, i.isLt, rfl, fun j lt => by simpa [← claims_iff] using none ⟨j, by omega⟩ lt⟩
  · unfold Bank.winner
    rw [List.find?_eq_none]
    simp [claims_iff]

/-! ## Malformed and gated frames (R16, R17) -/

theorem classify_data (body : f.body = .data reply tag) : s.classify side f = s.classifyData side reply tag f := by
  unfold State.classify; rw [body]

theorem classify_query (body : f.body = .query reply tag) : s.classify side f = s.classifyQuery side reply tag f := by
  unfold State.classify; rw [body]

theorem classify_unknown (body : f.body = .unknown) : s.classify side f = s.dropMalformed side := by
  unfold State.classify; rw [body]

theorem classifyQuery_malformed (bad : reply = true ∨ f.payload ≠ []) :
    s.classifyQuery side reply tag f =
      s.countClassifier side fun c =>
        { c with queryTaken := bump c.queryTaken, malformed := bump c.malformed } := by
  unfold State.classifyQuery State.dropMalformed
  rw [if_pos bad, countClassifier_twice]

theorem classifyQuery_gated (empty : f.payload = []) (tripped : s.trip.state = .tripped) :
    s.classifyQuery side false tag f =
      s.countClassifier side fun c => { c with queryTaken := bump c.queryTaken, isolated := bump c.isolated } := by
  unfold State.classifyQuery State.dropIsolated
  rw [if_neg (by simp [empty]), if_pos tripped, countClassifier_twice]

theorem classifyData_gated (tripped : s.trip.state = .tripped) :
    s.classifyData side reply tag f =
      s.countClassifier side fun c => { c with dataTaken := bump c.dataTaken, isolated := bump c.isolated } := by
  unfold State.classifyData State.dropIsolated
  rw [if_pos tripped, countClassifier_twice]

/-- Settles O11: each drop is a count of the classifier and nothing else. -/
theorem malformedAndGatedFramesAreDropped : Obligations.MalformedAndGatedFramesAreDropped := by
  unfold Obligations.MalformedAndGatedFramesAreDropped
  intro side f s takes quiet fits
  have event {g : ClassifierCounters → ClassifierCounters}
      (classified : (s.heard side).classify side f = (s.heard side).countClassifier side g) :
      exec (.reception side f.bytes) s = .next ((s.heard side).countClassifier side g) :=
    exec_received_quiet takes fits classified quiet
  refine ⟨fun body => ?_, fun reply tag body bad => ?_, fun tag body empty tripped => ?_,
    fun reply tag body tripped => ?_⟩
  · exact event (classify_unknown body)
  · exact event ((classify_query body).trans (classifyQuery_malformed bad))
  · exact event ((classify_query body).trans (classifyQuery_gated empty tripped))
  · exact event ((classify_data body).trans (classifyData_gated tripped))

end Sys2Proof.Machine.ClassifierLaws
end

section
/-! Frames that no entry claims (R11, R18, R19), and the routing of MGMT frames (R27 to R30, R143): what the default
action and the management-pass setting make of a frame, as outcomes of an event. -/

namespace Sys2Proof.Machine.ClassifierLaws

open DeliveryLaws ForwardLaws

variable {s u : State} {side : Side} {f : Frame} {query reply : Bool} {tag : Tag}

/-! ## Past the trip gate (R17, R18) -/

/-- A DATA frame past the gate: a reply settles its query, then the match scan. -/
theorem classifyData_open (gate : s.trip.state ≠ .tripped) :
    s.classifyData side reply tag f =
      (settledIf reply side tag (s.countClassifier side fun c => { c with dataTaken := bump c.dataTaken })).matchData
        side tag (reply && s.settles side tag) f :=
  if_neg gate

theorem classifyQuery_open (empty : f.payload = []) (gate : s.trip.state ≠ .tripped) :
    s.classifyQuery side false tag f =
      (s.countClassifier side fun c => { c with queryTaken := bump c.queryTaken }).matchQuery side tag f := by
  unfold State.classifyQuery
  rw [if_neg (by simp [empty]), if_neg gate]

/-- Only a DATA frame with Reply set settles. -/
theorem settles_ite (query reply : Bool) (side : Side) (tag : Tag) (s : State) :
    (if query = false ∧ reply = true then s.settleReply side tag else s) = settledIf (!query && reply) side tag s := by
  cases query <;> cases reply <;> rfl

/-! ## The default action (R11, R19) -/

theorem defaultAction_drop (drop : s.banks.active.header.defaults.get side = .drop) :
    s.defaultAction side f =
      (s.countClassifier side fun c => { c with unmatched := bump c.unmatched }).countClassifier side fun c =>
        { c with default := bump c.default } := by
  unfold State.defaultAction
  rw [drop]

theorem defaultAction_pass (pass : s.banks.active.header.defaults.get side = .pass) :
    s.defaultAction side f =
      ((s.countClassifier side fun c => { c with unmatched := bump c.unmatched }).forward side f).1 := by
  unfold State.defaultAction
  rw [pass]

/-- A frame that no entry claims takes the default action; counting it *unmatched* and settling its query commute. -/
theorem classify_unmatched (body : f.body = if query then .query false tag else .data reply tag)
    (empty : query = true → f.payload = []) (gate : s.trip.state ≠ .tripped)
    (unclaimed : s.banks.active.winner side query tag = none) :
    ∃ w : State, s.classify side f = w.defaultAction side f ∧ w.banks.active = s.banks.active ∧
      (w.countClassifier side fun c => { c with unmatched := bump c.unmatched }) =
        settledIf (!query && reply) side tag (s.countClassifier side fun c =>
          if query then { c with queryTaken := bump c.queryTaken, unmatched := bump c.unmatched }
          else { c with dataTaken := bump c.dataTaken, unmatched := bump c.unmatched }) := by
  cases query with
  | true =>
    refine ⟨s.countClassifier side fun c => { c with queryTaken := bump c.queryTaken }, ?_, rfl,
      countClassifier_twice _ _ _ _⟩
    rw [classify_query body, classifyQuery_open (empty rfl) gate]
    unfold State.matchQuery
    rw [State.countClassifier_banks, unclaimed]
  | false =>
    obtain ⟨tags, proxy, same⟩ := settledIf_eq reply side tag
      (s.countClassifier side fun c => { c with dataTaken := bump c.dataTaken })
    refine ⟨settledIf reply side tag (s.countClassifier side fun c => { c with dataTaken := bump c.dataTaken }), ?_,
      by rw [same]; rfl, ?_⟩
    · rw [classify_data body, classifyData_open gate]
      unfold State.matchData
      rw [same, State.countClassifier_banks, unclaimed]
    · rw [← settledIf_countClassifier, countClassifier_twice]
      rfl

/-- Settles O14: the default action of the side, the settlement a matter of records and list alone. -/
theorem unmatchedFramesTakeTheDefault : Obligations.UnmatchedFramesTakeTheDefault := by
  unfold Obligations.UnmatchedFramesTakeTheDefault
  intro side query reply tag f s takes quiet fits empty body gate unclaimed counted taken
  obtain ⟨w, classified, active, is⟩ := classify_unmatched (s := s.heard side) body empty gate unclaimed
  have taken_eq : taken = settledIf (!query && reply) side tag counted := settles_ite query reply side tag counted
  rw [← taken_eq] at is
  obtain ⟨tags, proxy, same⟩ := settledIf_eq (!query && reply) side tag counted
  rw [← taken_eq] at same
  have still : taken.Quiet := by rw [same]; exact quiet
  have header : w.banks.active.header.defaults.get side = s.banks.active.header.defaults.get side := by rw [active]; rfl
  refine ⟨fun drop => ?_, ?_⟩
  · exact exec_received_quiet takes fits (by rw [classified, defaultAction_drop (header.trans drop), is]) still
  · have open_ : taken.trip.state ≠ .tripped := by rw [same]; exact gate
    have onward (pass : s.banks.active.header.defaults.get side = .pass) :
        exec (.reception side f.bytes) s = .next (taken.forward side f).1.settle := by
      rw [exec_received takes fits, classified, defaultAction_pass (header.trans pass), is]
    refine ⟨fun pass hops room => ?_, fun pass spent => ?_⟩
    · have roomy : taken.Room side.far :=
        (room_congr (by rw [same]; exact heard_state s side) (by rw [same]; rfl) (by rw [same]; rfl)).2 room
      exact (forward_event (onward pass) still (.inl open_)).1 hops roomy
    · obtain ⟨t, next, steady, banks, -, set, leaves⟩ := (forward_event (onward pass) still (.inl open_)).2 spent
      refine ⟨t, next, steady, set, banks, fun unreported => leaves ?_⟩
      rw [same]
      exact unreported.2

/-! ## MGMT frames by the management-pass setting (R24, R30) -/

theorem forwardMgmt_drop (drop : s.banks.active.header.mgmtPass = .drop) :
    s.forwardMgmt side f = s.countClassifier side fun c => { c with management := bump c.management } := by
  unfold State.forwardMgmt
  rw [drop]

theorem forwardMgmt_pass (pass : s.banks.active.header.mgmtPass = .pass) :
    s.forwardMgmt side f = (s.forward side f).1 := by
  unfold State.forwardMgmt
  rw [pass]

/-- An event that ends with the forwarding of a MGMT frame: dropped as *management*, across with its hop less one, or
dropped as *hop-expired* with the flag set. -/
theorem forwardMgmt_event {i : Instr} (event : exec i s = .next (u.forwardMgmt side f).settle) (quiet : u.Quiet)
    (mgmt : f.traffic = false) :
    (u.banks.active.header.mgmtPass = .drop →
      exec i s = .next (u.countClassifier side fun c => { c with management := bump c.management })) ∧
    (u.banks.active.header.mgmtPass = .pass → f.hop ≠ 0 → u.Room side.far →
      exec i s =
        .next
          ((u.countClassifier side fun c => { c with forwarded := bump c.forwarded }).enqueue side.far
            { f with hop := f.hop - 1 })) ∧
    (u.banks.active.header.mgmtPass = .pass → f.hop = 0 →
      let dropped := u.countClassifier side fun c => { c with hopExpired := bump c.hopExpired }
      ∃ t, exec i s = .next t ∧ t.steady = u.steady ∧ t.banks = dropped.banks ∧ t.agent = dropped.agent ∧
        t.events.has .hopExpired = true ∧ (u.agent.params.reportStation = 4095 → dropped.Leaves t [.hopExpired])) := by
  refine ⟨fun drop => ?_, fun pass => ?_, fun pass => ?_⟩
  · rw [event, forwardMgmt_drop drop]
    exact congrArg Host.Outcome.next (State.settle_of_quiet quiet)
  · rw [forwardMgmt_pass pass] at event
    exact (forward_event event quiet (.inr mgmt)).1
  · rw [forwardMgmt_pass pass] at event
    exact (forward_event event quiet (.inr mgmt)).2

/-! ## MGMT frames by their addresses (R27 to R30) -/

variable {m : Arrival} {dst src : Station}

theorem classify_mgmt (body : f.body = .mgmt reply dst src) :
    s.classify side f =
      s.classifyMgmt side f dst src
        (State.agentTakes { side := side, source := src, cls := f.cls, hop := f.hop, reply := reply }
          (dst == stationBroadcast) f.payload) := by
  unfold State.classify; rw [body]

/-- The addresses that R27 drops. -/
theorem badAddresses_iff {own : Station} :
    badAddresses own dst src = true ↔ src = 0 ∨ src = 4095 ∨ src = own ∨ dst = 4095 := by
  simp [badAddresses, stationBroadcast, stationNone, or_assoc]

theorem classifyMgmt_bad {agent : State → State} (bad : badAddresses s.agent.params.ownStation dst src = true) :
    s.classifyMgmt side f dst src agent =
      s.countClassifier side fun c => { c with badAddress := bump c.badAddress } := if_pos bad

/-- A frame for another station is forwarded (R30). -/
theorem classifyMgmt_other {agent : State → State} (good : ¬badAddresses s.agent.params.ownStation dst src = true)
    (other : dst ≠ s.agent.params.ownStation) (single : dst ≠ 0) :
    s.classifyMgmt side f dst src agent =
      (s.countClassifier side fun c => { c with mgmtTaken := bump c.mgmtTaken }).forwardMgmt side f := by
  unfold State.classifyMgmt
  rw [if_neg good, if_neg other, if_neg (show ¬dst = stationBroadcast from single)]

/-- A broadcast reaches the agent and is then forwarded (R29). -/
theorem classifyMgmt_broadcast {agent : State → State}
    (good : ¬badAddresses s.agent.params.ownStation 0 src = true) (own : s.agent.params.ownStation ≠ 0) :
    s.classifyMgmt side f 0 src agent =
      (agent (s.countClassifier side fun c => { c with mgmtTaken := bump c.mgmtTaken })).forwardMgmt side f := by
  unfold State.classifyMgmt
  rw [if_neg good, if_neg own.symm, if_pos (show (0 : Station) = stationBroadcast from rfl)]

/-- A broadcast message handed to the agent: what the agent makes of it, its frame forwarded, all settled (R29). -/
theorem arrival_broadcast (hears : s.Hears m) (own : s.agent.params.ownStation ≠ 0) (payload : Payload)
    (agent : State → State) :
    arrival true m true payload agent s =
      .next ((agent (s.handed m)).forwardMgmt m.side (arrivalFrame m 0 payload)).settle := by
  obtain ⟨takes, single, named, foreign, -⟩ := hears
  have good : ¬badAddresses s.agent.params.ownStation 0 m.source = true := by
    rw [badAddresses_iff]
    rintro (c | c | c | c)
    · exact single c
    · exact named c
    · exact foreign c
    · exact absurd c (by decide)
  have heard : (s.acknowledge m.side true).countPort m.side (fun c => { c with receivedGood := bump c.receivedGood }) =
      s.heard m.side := by cases m.side <;> rfl
  have routed := classifyMgmt_broadcast (s := s.heard m.side) (side := m.side) (agent := agent)
    (f := arrivalFrame m 0 payload) good own
  have arrived : State.arrive m true payload agent s =
      (agent (s.handed m)).forwardMgmt m.side (arrivalFrame m 0 payload) := by
    unfold State.arrive State.receiveGood
    dsimp only
    rw [State.endOfFrame_receives takes, heard]
    exact routed
  unfold arrival
  rw [if_pos rfl, event_running takes.1, arrived]

theorem handed_state (s : State) (m : Arrival) (x : Side) :
    ((s.handed m).ports.get x).state = (s.ports.get x).state := heard_state s m.side x

/-- A broadcast IDENTIFY is answered: the response queued and no more (R29, R143, R157). -/
theorem takeBroadcast_identify {seq : Byte} (quiet : s.Quiet) (room : s.Room m.side) :
    (s.handed m).takeBroadcast m seq (identifyCommand []) =
      (s.delivered m).queueResponse m ⟨seq, 0x01, .ok, s.identity⟩ := by
  have settled : (s.delivered m).settle = s.delivered m := State.settle_of_quiet quiet
  have taken : (s.handed m).takeBroadcast m seq (identifyCommand []) =
      (s.delivered m).settle.respond m ⟨seq, 0x01, .ok, s.identity⟩ := rfl
  rw [taken, settled, State.respond_room (delivered_room room)]

/-- Settles O15: addresses first, then the management-pass setting; the answer to a broadcast goes before its copy. -/
theorem managementFramesAreRouted : Obligations.ManagementFramesAreRouted := by
  unfold Obligations.ManagementFramesAreRouted
  refine ⟨fun side f reply dst src s takes quiet fits body => ⟨fun bad => ?_,
    fun single named foreign dstNamed notAll other => ?_⟩, fun m seq s hears quiet room own => ?_⟩
  · exact exec_received_quiet takes fits ((classify_mgmt body).trans (classifyMgmt_bad (badAddresses_iff.2 bad))) quiet
  · have good : ¬badAddresses (s.heard side).agent.params.ownStation dst src = true := by
      rw [badAddresses_iff]
      rintro (c | c | c | c)
      · exact single c
      · exact named c
      · exact foreign c
      · exact dstNamed c
    have event := exec_received takes fits
    rw [classify_mgmt body, classifyMgmt_other good other notAll] at event
    have mgmt : f.traffic = false := by unfold Frame.traffic; rw [body]
    obtain ⟨dropped, crossed, expired⟩ := forwardMgmt_event event quiet mgmt
    refine ⟨fun drop => ?_, fun pass hops roomy => ?_, fun pass spent => ?_⟩
    · rw [dropped drop, countClassifier_twice]
    · rw [crossed pass hops ((room_congr (heard_state s side) rfl rfl).2 roomy), countClassifier_twice]
    · obtain ⟨t, next, steady, banks, -, set, leaves⟩ := expired pass spent
      simp only [countClassifier_twice] at banks leaves
      exact ⟨t, next, steady.trans (State.steady_heard s side), banks, set, fun unreported => leaves unreported.2⟩
  · intro answered
    have event : exec (.identify m true seq []) s = _ :=
      arrival_broadcast hears own (commandPayload seq 0x01 []) (State.takeBroadcast m seq (identifyCommand []))
    rw [takeBroadcast_identify quiet room] at event
    obtain ⟨dropped, crossed, expired⟩ := forwardMgmt_event event quiet rfl
    refine ⟨dropped, crossed, fun pass spent => ?_⟩
    obtain ⟨t, next, steady, banks, agent, set, leaves⟩ := expired pass spent
    have kept : answered.steady = s.steady := (State.steady_enqueue _ _ _).trans (State.steady_delivered s m)
    exact ⟨t, next, steady.trans kept, banks, agent, set, fun unreported => leaves unreported.2⟩

end Sys2Proof.Machine.ClassifierLaws
end

section
/-! Messages that are no command (R143, R144): the unknown code answered, the rest counted, and a broadcast of them
forwarded all the same (R29, R30). -/

namespace Sys2Proof.Machine.MessageLaws

open DeliveryLaws ForwardLaws ClassifierLaws

variable {s : State} {m : Arrival} {payload : Payload} {seq code : Byte} {args : Payload}

/-- A code that names no command is answered, and counted twice over (R144 step 2). -/
theorem exec_unknown (hears : s.Hears m) (quiet : s.Quiet) (room : s.Room m.side) (new : s.NewCommand m seq)
    (w : (Instr.unknownCommand m seq code args).wellFormed = true) :
    exec (.unknownCommand m seq code args) s =
      .next
        (((s.delivered m).countAgent fun c => { c with unknownCommand := bump c.unknownCommand }).answeredBy m
          ⟨seq, code, .unknownCommand, []⟩) := by
  obtain ⟨fit, row⟩ := CommandRows.command_row (m := m) (seq := seq) (code := code) w rfl
  have unknown : knownCode code = false := by
    simp only [Instr.wellFormed, Bool.and_eq_true, Bool.not_eq_true'] at w
    exact w.2
  rw [row, CommandRows.commandFor_unknown unknown]
  exact addressed_room hears new (fun owner => absurd owner Bool.false_ne_true) fit rfl quiet
    (delivered_room (m := m) room)

theorem exec_badMessage {toAll : Bool} (w : (Instr.badMessage m toAll payload).wellFormed = true) :
    exec (.badMessage m toAll payload) s = arrival true m toAll payload State.countBadMessage s :=
  congrArg (fun fits => arrival fits m toAll payload State.countBadMessage s) w

theorem exec_ignoredMessage {toAll : Bool} (w : (Instr.ignoredMessage m toAll payload).wellFormed = true) :
    exec (.ignoredMessage m toAll payload) s = arrival true m toAll payload State.countIgnoredMessage s :=
  congrArg (fun fits => arrival fits m toAll payload State.countIgnoredMessage s) w

/-- Settles O41: an addressed message ends with its count, a broadcast goes on by the management-pass setting. -/
theorem messagesThatAreNoCommand : Obligations.MessagesThatAreNoCommand := by
  unfold Obligations.MessagesThatAreNoCommand
  refine ⟨fun m seq code args s hears quiet room new w => exec_unknown hears quiet room new w,
    fun m payload s hears quiet w => ?_, fun m payload s hears quiet w => ?_,
    fun i m payload s counted hears quiet own w message => ?_⟩
  · rw [exec_badMessage w, arrival_heard hears]
    exact congrArg Host.Outcome.next (State.settle_of_quiet (s := State.countBadMessage _) quiet)
  · rw [exec_ignoredMessage w, arrival_heard hears]
    exact congrArg Host.Outcome.next (State.settle_of_quiet (s := State.countIgnoredMessage _) quiet)
  · have event : exec i s = .next (counted.forwardMgmt m.side (arrivalFrame m 0 payload)).settle ∧
        ∃ g, counted = (s.handed m).countAgent g := by
      rcases message with ⟨rfl, rfl⟩ | ⟨rfl, rfl⟩
      · exact ⟨(exec_badMessage w).trans (arrival_broadcast hears own payload State.countBadMessage), _, rfl⟩
      · exact ⟨(exec_ignoredMessage w).trans (arrival_broadcast hears own payload State.countIgnoredMessage), _, rfl⟩
    obtain ⟨event, g, rfl⟩ := event
    obtain ⟨dropped, crossed, expired⟩ := forwardMgmt_event event quiet rfl
    refine ⟨dropped, fun pass hops room => ?_, fun pass spent => ?_⟩
    · exact crossed pass hops ((room_congr (handed_state s m) rfl rfl).2 room)
    · obtain ⟨t, next, steady, banks, agent, set, leaves⟩ := expired pass spent
      refine ⟨t, next, ?_, banks, agent, set, fun unreported => leaves unreported.2⟩
      rw [steady, State.steady_countAgent, State.steady_handed]

end Sys2Proof.Machine.MessageLaws
end

section
/-! A command row is what RECEPTION makes of its message's frame (R28, R143, R193): the frame is read back, and the
agent finds in its payload the message that the row stands for (log entry 4). -/

namespace Sys2Proof.Machine.WireLaws

open ForwardLaws ClassifierLaws

variable {s : State} {m : Arrival} {toAll : Bool} {payload args : Payload} {seq code : Byte} {i : Instr}

/-- The frame of a message for the coupler or for all, as RECEPTION takes it: the arrival of the message, which the
agent reads. -/
theorem exec_reception_message (fits : payload.length ≤ Config.payload)
    (own : s.agent.params.ownStation ≠ stationBroadcast) :
    exec (.reception m.side
        (arrivalFrame m (if toAll then stationBroadcast else s.agent.params.ownStation) payload).bytes) s =
      arrival true m toAll payload (State.agentTakes m toAll payload) s := by
  have addressee : ((if toAll then stationBroadcast else s.agent.params.ownStation) == stationBroadcast) = toAll := by
    cases toAll with
    | true => rfl
    | false => exact beq_eq_false_iff_ne.2 own
  have received : State.receive m.side
        (arrivalFrame m (if toAll then stationBroadcast else s.agent.params.ownStation) payload).bytes s =
      State.arrive m toAll payload (State.agentTakes m toAll payload) s := by
    unfold State.receive State.arrive
    rw [EncodingLaws.readFrame_bytes _ (by exact fits)]
    refine congrArg (fun take => s.endOfFrame m.side take) (funext fun t => ?_)
    refine congrArg (fun classify => t.receiveGood m.side classify) (funext fun u => ?_)
    rw [classify_mgmt (reply := m.reply) (src := m.source) rfl, addressee]
    rfl
  refine congrArg Host.Outcome.next ?_
  unfold State.event
  rw [received]

/-! ## What the agent reads in a payload (R143) -/

theorem agentTakes_bad (bad : badHeader payload = true) : State.agentTakes m toAll payload s = s.countBadMessage := by
  match payload, bad with
  | [], _ | [_], _ | [_, _], _ | [_, _, _], _ => rfl
  | kind :: seq :: code :: b :: args, bad =>
    have above : 3 < kind := of_decide_eq_true bad
    have apart : ∀ k : Byte, k ≤ 3 → kind ≠ k := by
      rintro k low rfl
      exact absurd low (BitVec.not_le.2 above)
    cases toAll with
    | true => exact if_pos above
    | false =>
      change s.takeMessage m kind seq code args = _
      unfold State.takeMessage
      rw [if_neg (apart 0 (by decide)), if_neg (apart 3 (by decide)),
        if_neg (not_or.2 ⟨apart 1 (by decide), apart 2 (by decide)⟩)]

theorem agentTakes_ignorable (ignored : ignorable toAll payload = true) :
    State.agentTakes m toAll payload s = s.countIgnoredMessage := by
  match payload, ignored with
  | kind :: seq :: code :: b :: args, ignored =>
    cases toAll with
    | true =>
      simp only [ignorable, if_true, Bool.and_eq_true, decide_eq_true_eq, Bool.not_eq_true', Bool.and_eq_false_iff,
        beq_eq_false_iff_ne] at ignored
      obtain ⟨low, other⟩ := ignored
      change s.takeAnnouncement m kind seq code args = _
      unfold State.takeAnnouncement
      rw [if_neg (BitVec.not_lt.2 low), if_neg fun identify => other.elim (· identify.1) (· identify.2)]
    | false =>
      simp only [ignorable, Bool.false_eq_true, if_false, Bool.or_eq_true, beq_iff_eq] at ignored
      change s.takeMessage m kind seq code args = _
      rcases ignored with rfl | rfl <;> rfl

/-! ## The rows -/

/-- The message of a row fits a frame, and the row is the arrival of its message, which the agent reads. -/
def OnTheWire (i : Instr) (m : Arrival) (toAll : Bool) (payload : Payload) : Prop :=
  payload.length ≤ Config.payload ∧ ∀ s, exec i s = arrival true m toAll payload (State.agentTakes m toAll payload) s

/-- An addressed command is found by its code. -/
theorem command_onTheWire (w : i.wellFormed = true) (c : i.command = some (m, seq, code)) :
    OnTheWire i m false (commandPayload seq code i.args) := by
  obtain ⟨fit, row⟩ := CommandRows.command_row w c
  obtain ⟨same, -⟩ := CommandRows.commandFor_head m seq code i.args
  refine ⟨Laws.MessageFits.fits fit, fun s => ?_⟩
  rw [row]
  unfold addressed
  rw [fit, same]
  rfl

theorem message_onTheWire (w : i.wellFormed = true) (carried : i.message = some (m, toAll, payload)) :
    OnTheWire i m toAll payload := by
  cases i with
  | ack =>
    cases carried
    exact ⟨Laws.MessageFits.fits (args := []) rfl, fun _ => rfl⟩
  | badMessage =>
    cases carried
    have parts := w
    simp only [Instr.wellFormed, Bool.and_eq_true, decide_eq_true_eq] at parts
    obtain ⟨fits, bad⟩ := parts
    refine ⟨fits, fun s => (MessageLaws.exec_badMessage w).trans ?_⟩
    exact congrArg (arrival true m toAll payload · s) (funext fun u => (agentTakes_bad bad).symm)
  | ignoredMessage =>
    cases carried
    have parts := w
    simp only [Instr.wellFormed, Bool.and_eq_true, decide_eq_true_eq] at parts
    obtain ⟨fits, ignored⟩ := parts
    refine ⟨fits, fun s => (MessageLaws.exec_ignoredMessage w).trans ?_⟩
    exact congrArg (arrival true m toAll payload · s) (funext fun u => (agentTakes_ignorable ignored).symm)
  | identify m' toAll' seq args =>
    cases carried
    cases toAll with
    | false => exact command_onTheWire w rfl
    | true =>
      exact ⟨Laws.MessageFits.fits w, fun s =>
        congrArg (fun fits => arrival fits m true (commandPayload seq 0x01 args)
          (State.takeBroadcast m seq (identifyCommand args)) s) w⟩
  | _ => cases carried <;> exact command_onTheWire w rfl

/-- Settles O52: the frame is read back, and its payload names the row's message. -/
theorem messagesOnTheWireAreTheirRows : Obligations.MessagesOnTheWireAreTheirRows := by
  unfold Obligations.MessagesOnTheWireAreTheirRows
  intro i m toAll payload s w carried own
  obtain ⟨fits, row⟩ := message_onTheWire w carried
  exact (exec_reception_message fits own).trans (row s).symm

end Sys2Proof.Machine.WireLaws
end

section
/-! Start-up, whatever it loads (R192): the counters at 0, and the rest as it is listed. -/

namespace Sys2Proof.Machine.StartLaws

/-- Every counter set is 0 throughout after start-up (Table 8-7). -/
theorem counterSet_started {img : Image} {store : ImageStore} {free : Nat} {pending : List Instr} {code : Byte}
    {cs : List Counter} (set : (State.started img store free pending).counterSet code = some cs) :
    cs = List.replicate cs.length 0 := by
  unfold State.counterSet at set
  split at set
  case h_14 => cases set
  all_goals cases set; rfl

/-- Settles O7: `State.started` lists the rest, whatever image is loaded. -/
theorem startUpClearsTheRest : Obligations.StartUpClearsTheRest := by
  unfold Obligations.StartUpClearsTheRest
  intro strap fm c0 c1 s
  refine ⟨s.startUp strap fm c0 c1, rfl, rfl, rfl, rfl, fun code cs set c mem => ?_, rfl, rfl, rfl, rfl, rfl, rfl, rfl,
    rfl, rfl, rfl, rfl, rfl, rfl, rfl, rfl, rfl⟩
  rw [counterSet_started set] at mem
  exact List.eq_of_mem_replicate mem

end Sys2Proof.Machine.StartLaws
end

section
/-! The record of a key, found or allocated (R35, R36, R40), and the tag memory step on it (R22, R40, R46, R62). -/

namespace Sys2Proof.Machine.RecordLaws

variable {t tags : TagMemory} {o : Side} {tag : Tag} {now : CTime} {k : Fin 48} {r : Record}

/-- A lookup that finds nothing changes nothing. -/
theorem lookup_none (new : t.find o tag = none) : t.lookup o tag now = (t, none) := by
  unfold TagMemory.lookup
  rw [new]

/-- A lookup that finds a record sets its last use and nothing else (R35). -/
theorem lookup_some (found : t.find o tag = some k) (hr : t.records[k] = some r) :
    t.lookup o tag now = ({ t with records := t.records.set k (some { r with lastUse := now }) }, some k) := by
  unfold TagMemory.lookup
  rw [found]
  simp only [modify_eq hr]

/-- The record that an allocation makes is the one allocated (R36). -/
theorem allocate_some (made : t.allocate o tag now = (tags, some k)) :
    tags.records[k] = some (Record.allocated o tag now) := by
  rcases AllocationLaws.allocate_cases t o tag now with ⟨i, -, eq⟩ | ⟨i, -, -, eq⟩ | ⟨-, -, eq⟩
  · rw [eq] at made
    cases made
    exact (getElem_set _ _ _ _).trans (if_pos rfl)
  · rw [eq] at made
    cases made
    exact (getElem_set _ _ _ _).trans (if_pos rfl)
  · rw [eq] at made
    cases made

/-- Writing what is there changes nothing. -/
theorem set_same {v : Records} {x : Option Record} (held : v[k] = x) : v.set k x = v := by
  subst held
  exact Vector.set_getElem_self k.isLt

/-- Record `k` is found for a key, or allocated for it where none is found; `tags` is the memory that holds it. -/
def HeldBy (t : TagMemory) (o : Side) (tag : Tag) (now : CTime) (k : Fin 48) (tags : TagMemory) : Prop :=
  t.find o tag = some k ∧ tags = t ∨ t.find o tag = none ∧ t.allocate o tag now = (tags, some k)

/-- An allocated record has its last use set already. -/
theorem touch_allocated (made : t.allocate o tag now = (tags, some k)) (hr : tags.records[k] = some r) :
    { tags with records := tags.records.set k (some { r with lastUse := now }) } = tags := by
  have is := allocate_some made
  rw [hr] at is
  cases is
  exact congrArg (fun v => { tags with records := v }) (set_same hr)

/-- The record for a key, its last use set (R35, R40). -/
theorem recordFor_held (held : HeldBy t o tag now k tags) (hr : tags.records[k] = some r) :
    t.recordFor o tag now =
      ({ tags with records := tags.records.set k (some { r with lastUse := now }) }, some k) := by
  unfold TagMemory.recordFor
  rcases held with ⟨found, rfl⟩ | ⟨new, made⟩
  · rw [lookup_some found hr]
  · rw [lookup_none new, touch_allocated made hr]
    exact made

theorem recordFor_full (new : t.find o tag = none) (full : t.allocate o tag now = (tags, none)) :
    t.recordFor o tag now = (tags, none) := by
  unfold TagMemory.recordFor
  rw [lookup_none new]
  exact full

/-! ## The tag memory step -/

variable {s : State} {side : Side} {p : Payload} {e : Entry} {v : Verdict} {r1 : Record} {settled : Bool}

/-- What the step leaves of the record: PROXY renews its freshness unless it is unsettled (R46), and a settling reply
under another action leaves it as it was (R62). -/
theorem step_eq {P : Prop} [Decidable P] (settles : settled = true ↔ P)
    (filtered : r.filtered e.filter e.window p now = (r1, v)) :
    r.step e settled p now =
      (if e.action = .proxy ∧ v ≠ .unsettled then
          { r1 with freshness := .fresh, freshUntil := now + e.freshness.setWidth 32 }
        else if e.action ≠ .proxy ∧ P then r
        else r1, v) := by
  unfold Record.step Record.renewed
  rw [filtered]
  by_cases proxy : e.action = .proxy
  · by_cases loose : v = .unsettled <;> simp [proxy, loose]
  · simp [proxy, settles]

/-- The step writes the record of the key, found or allocated. -/
theorem tagStep_held (time : s.now = now) (held : HeldBy s.tags side tag now k tags) (hr : tags.records[k] = some r) :
    s.tagStep side tag settled p e =
      ({ s with
          tags :=
            { tags with
              records := tags.records.set k (some (({ r with lastUse := now }).step e settled p now).1) } },
        (({ r with lastUse := now }).step e settled p now).2) := by
  subst time
  have at_k : (tags.records.set k (some { r with lastUse := s.now }))[k] = some { r with lastUse := s.now } :=
    (getElem_set _ _ _ _).trans (if_pos rfl)
  unfold State.tagStep
  rw [recordFor_held held hr]
  simp only [at_k, Vector.set_set]

/-- With no record to be had the frame passes and TAG_MEMORY_FULL is set (R37). -/
theorem tagStep_full (time : s.now = now) (new : s.tags.find side tag = none)
    (full : s.tags.allocate side tag now = (tags, none)) :
    s.tagStep side tag settled p e = ({ s with tags := tags }.setFlag .tagMemoryFull, .pass) := by
  subst time
  unfold State.tagStep
  rw [recordFor_full new full]

end Sys2Proof.Machine.RecordLaws
end

section
/-! Frames that win an entry (R14, R19 to R26): the hit, then the entry's action, the record where there is one to
consult, and the hop test. -/

namespace Sys2Proof.Machine.ClassifierLaws

open DeliveryLaws ForwardLaws RecordLaws

variable {s u w : State} {side : Side} {f : Frame} {query reply settled : Bool} {tag : Tag} {i : Fin 64} {e : Entry}

/-! ## The winning entry -/

/-- A reply settles a query just when the list holds one of its tag and ingress side (R61). -/
theorem settles_iff : s.settles side tag = true ↔ ∃ q ∈ s.proxy.list, q.key = (side, tag) := by
  have none := Proxy.find_none (p := s.proxy) (o := side) (tag := tag)
  unfold State.settles
  rw [← Option.ne_none_iff_isSome, ne_eq, none]
  simp [QueryEntry.key]

/-- A frame that has won entry `i`: its reply has settled, and the hit is counted. -/
def won (query reply : Bool) (side : Side) (tag : Tag) (i : Fin 64) (s : State) : State :=
  (settledIf (!query && reply) side tag s).hit i

/-- Beside the hit, winning is a matter of records and list. -/
theorem won_eq (query reply : Bool) (side : Side) (tag : Tag) (i : Fin 64) (s : State) :
    ∃ tags proxy, won query reply side tag i s = { s.hit i with tags := tags, proxy := proxy } := by
  obtain ⟨tags, proxy, same⟩ := settledIf_eq (!query && reply) side tag s
  unfold won
  rw [same]
  exact ⟨tags, proxy, rfl⟩

theorem classify_query_won (body : f.body = .query false tag) (empty : f.payload = [])
    (gate : s.trip.state ≠ .tripped) (wins : s.banks.active.winner side true tag = some i) :
    s.classify side f =
      (won true reply side tag i
        (s.countClassifier side fun c => { c with queryTaken := bump c.queryTaken })).queryUnder side tag f
        s.banks.active.entries[i] := by
  rw [classify_query body, classifyQuery_open empty gate]
  unfold State.matchQuery
  rw [State.countClassifier_banks, wins]
  rfl

theorem classify_data_won (body : f.body = .data reply tag) (gate : s.trip.state ≠ .tripped)
    (wins : s.banks.active.winner side false tag = some i) :
    s.classify side f =
      (won false reply side tag i
        (s.countClassifier side fun c => { c with dataTaken := bump c.dataTaken })).dataUnder side tag
        (reply && s.settles side tag) f s.banks.active.entries[i] := by
  rw [classify_data body, classifyData_open gate]
  obtain ⟨tags, proxy, same⟩ := settledIf_eq reply side tag
    (s.countClassifier side fun c => { c with dataTaken := bump c.dataTaken })
  unfold State.matchData won
  rw [Bool.not_false, Bool.true_and, same, State.countClassifier_banks, wins]

/-! ## The actions (R21 to R26) -/

theorem queryUnder_drop (drop : e.action = .drop) :
    s.queryUnder side tag f e = s.countClassifier side fun c => { c with table := bump c.table } := by
  unfold State.queryUnder
  rw [drop]

theorem queryUnder_onward (onward : e.action = .pass ∨ e.action = .rewrite) :
    s.queryUnder side tag f e = (s.forward side (e.applyTo tag f)).1 := by
  unfold State.queryUnder
  rcases onward with act | act <;> rw [act]

/-- Without a trip source, or once the source is dealt with, a DATA frame takes its entry's action. -/
theorem dataUnder_drop (offered : s.tripStep side tag f e = (u, false)) (drop : e.action = .drop) :
    s.dataUnder side tag settled f e = u.countClassifier side fun c => { c with table := bump c.table } := by
  unfold State.dataUnder
  rw [offered]
  exact if_pos drop

theorem dataUnder_onward (offered : s.tripStep side tag f e = (u, false)) (goes : e.action ≠ .drop) :
    s.dataUnder side tag settled f e = u.dataOnward side tag settled f e := by
  unfold State.dataUnder
  rw [offered]
  exact if_neg goes

theorem tripStep_none (none : e.trip = none) : s.tripStep side tag f e = (s, false) := by
  unfold State.tripStep
  rw [none]

theorem filtersData_iff : e.filtersData = true ↔ e.action = .proxy ∨ e.filter ≠ .none := by
  simp [Entry.filtersData]

theorem dataOnward_plain (plain : ¬(e.action = .proxy ∨ e.filter ≠ .none)) :
    s.dataOnward side tag settled f e = (s.forward side (e.applyTo tag f)).1 :=
  if_neg (mt filtersData_iff.1 plain)

section Filtered

variable (filters : e.action = .proxy ∨ e.filter ≠ .none)
include filters

theorem dataOnward_pass (stepped : s.tagStep side tag settled f.payload e = (u, .pass)) :
    s.dataOnward side tag settled f e = (u.forward side (e.applyTo tag f)).1 := by
  unfold State.dataOnward
  rw [if_pos (filtersData_iff.2 filters), stepped]

theorem dataOnward_repeated (stepped : s.tagStep side tag settled f.payload e = (u, .repeated)) :
    s.dataOnward side tag settled f e = u.countClassifier side fun c => { c with repeated := bump c.repeated } := by
  unfold State.dataOnward
  rw [if_pos (filtersData_iff.2 filters), stepped]

theorem dataOnward_unsettled (stepped : s.tagStep side tag settled f.payload e = (u, .unsettled)) :
    s.dataOnward side tag settled f e =
      u.countClassifier side fun c => { c with unsettled := bump c.unsettled } := by
  unfold State.dataOnward
  rw [if_pos (filtersData_iff.2 filters), stepped]

end Filtered

/-- A frame under a winner without filter that lets it go on is handed on, with the entry's class and tag (R25). -/
theorem classify_plain (body : f.body = if query then .query false tag else .data reply tag)
    (empty : query = true → f.payload = []) (gate : s.trip.state ≠ .tripped)
    (wins : s.banks.active.winner side query tag = some i) (is : e = s.banks.active.entries[i])
    (unguarded : query = false → e.trip = none)
    (plain : e.action = .pass ∧ (query = false → e.filter = .none) ∨
      e.action = .rewrite ∧ (query = false → e.filter = .none)) :
    s.classify side f =
      ((won query reply side tag i (s.countClassifier side fun c =>
        if query then { c with queryTaken := bump c.queryTaken } else { c with dataTaken := bump c.dataTaken })).forward
          side (e.applyTo tag f)).1 := by
  have onward : e.action = .pass ∨ e.action = .rewrite := plain.imp And.left And.left
  cases query with
  | true => rw [classify_query_won (reply := reply) body (empty rfl) gate wins, ← is, queryUnder_onward onward]; rfl
  | false =>
    have unfiltered : e.filter = .none := plain.elim (fun p => p.2 rfl) fun p => p.2 rfl
    have goes : e.action ≠ .drop ∧ e.action ≠ .proxy := by rcases onward with act | act <;> simp [act]
    rw [classify_data_won body gate wins, ← is, dataUnder_onward (tripStep_none (unguarded rfl)) goes.1,
      dataOnward_plain (by simp [unfiltered, goes.2])]
    rfl

theorem classify_table (body : f.body = if query then .query false tag else .data reply tag)
    (empty : query = true → f.payload = []) (gate : s.trip.state ≠ .tripped)
    (wins : s.banks.active.winner side query tag = some i) (is : e = s.banks.active.entries[i])
    (unguarded : query = false → e.trip = none) (drop : e.action = .drop) :
    s.classify side f =
      (won query reply side tag i (s.countClassifier side fun c =>
        if query then { c with queryTaken := bump c.queryTaken } else { c with dataTaken := bump c.dataTaken
          })).countClassifier side fun c => { c with table := bump c.table } := by
  cases query with
  | true => rw [classify_query_won (reply := reply) body (empty rfl) gate wins, ← is, queryUnder_drop drop]; rfl
  | false =>
    rw [classify_data_won body gate wins, ← is, dataUnder_drop (tripStep_none (unguarded rfl)) drop]
    rfl

theorem classify_filtered (body : f.body = .data reply tag) (gate : s.trip.state ≠ .tripped)
    (wins : s.banks.active.winner side false tag = some i) (is : e = s.banks.active.entries[i])
    (unguarded : e.trip = none) (goes : e.action ≠ .drop) :
    s.classify side f =
      (won false reply side tag i
        (s.countClassifier side fun c => { c with dataTaken := bump c.dataTaken })).dataOnward side tag
        (reply && s.settles side tag) f e := by
  rw [classify_data_won body gate wins, ← is, dataUnder_onward (tripStep_none unguarded) goes]

/-- Where no report can be made, a flag set before a frame crosses changes the flag alone. -/
theorem flagged_crosses {flag : Flag} (silent : u.Unreported) (hops : f.hop ≠ 0) (room : u.Room side.far)
    (lets : u.trip.state ≠ .tripped ∨ f.traffic = false) :
    ((u.countClassifier side fun c => { c with forwarded := bump c.forwarded }).enqueue side.far
      { f with hop := f.hop - 1 }).Leaves ((u.setFlag flag).forward side f).1.settle [flag] := by
  rw [mark_unreported silent,
    forward_crosses (s := { u with events := u.events.mark flag }) hops room lets]
  dsimp only
  rw [State.settle_of_quiet (s := State.enqueue _ _ _) (by exact silent.1)]
  rfl

/-- The frame that goes on under a winner (R6, R7, R25). -/
theorem applyTo_onward (body : f.body = if query then .query false tag else .data reply tag) :
    e.applyTo tag f =
      { body := if query then .query false (e.tagOf tag) else .data reply (e.tagOf tag)
        cls := e.setClass.getD f.cls
        hop := f.hop
        payload := f.payload } := by
  unfold Entry.applyTo
  rw [body]
  cases query <;> rfl

/-- Settles O13: by the action of the winner, and under PROXY or a filter by the verdict of its record. -/
theorem matchedFramesCrossOrStop : Obligations.MatchedFramesCrossOrStop := by
  unfold Obligations.MatchedFramesCrossOrStop
  intro side f query reply tag i e s heard takes quiet fits body empty gate wins is unguarded heard_eq taken settled
    onward crossed plain filtered
  have taken_eq : taken = won query reply side tag i heard :=
      congrArg (State.hit i) (settles_ite query reply side tag _)
  have onward_eq : onward = { e.applyTo tag f with hop := f.hop - 1 } := by
    rw [applyTo_onward body]
    rfl
  obtain ⟨tags, proxy, same⟩ := won_eq query reply side tag i heard
  rw [← taken_eq] at same
  have hop : (e.applyTo tag f).hop = f.hop := rfl
  have still : taken.Quiet := by rw [same, heard_eq]; exact quiet
  have open_ : taken.trip.state ≠ .tripped := by rw [same, heard_eq]; exact gate
  have station : taken.agent.params = s.agent.params := by rw [same, heard_eq]; rfl
  have roomy (room : s.Room side.far) : taken.Room side.far := by
    refine (room_congr (fun x => ?_) ?_ station).2 room
    · rw [same, heard_eq]; exact heard_state s side x
    · rw [same, heard_eq]; rfl
  have now : taken.now = s.now := by rw [same, heard_eq]; rfl
  refine ⟨fun drop => ?_, fun goes hops room => ?_, fun goes spent => ?_, fun ⟨data, goes, filters⟩ => ?_,
    fun ⟨data, goes, filters⟩ => ?_⟩
  · refine exec_received_quiet takes fits ?_ still
    rw [taken_eq, heard_eq]
    exact classify_table (s := s.heard side) body empty gate wins is unguarded drop
  · have event := exec_received takes fits
    rw [classify_plain (s := s.heard side) body empty gate wins is unguarded goes, ← heard_eq, ← taken_eq] at event
    rw [(forward_event event still (.inl open_)).1 hops (roomy room)]
    simp only [crossed, onward_eq, hop]
  · have event := exec_received takes fits
    rw [classify_plain (s := s.heard side) body empty gate wins is unguarded goes, ← heard_eq, ← taken_eq] at event
    obtain ⟨t, next, steady, banks, -, set, leaves⟩ := (forward_event event still (.inl open_)).2 spent
    exact ⟨t, next, steady, banks, set, fun unreported => leaves (by rw [station]; exact unreported.2)⟩
  all_goals
    subst data
    have event := exec_received takes fits
    rw [classify_filtered (s := s.heard side) body gate wins is (unguarded rfl) goes] at event
    change exec _ s = .next
      ((won false reply side tag i
        ((s.heard side).countClassifier side fun c =>
          if false = true then { c with queryTaken := bump c.queryTaken }
          else { c with dataTaken := bump c.dataTaken })).dataOnward side tag (reply && s.settles side tag) f e).settle
      at event
    rw [← heard_eq, ← taken_eq] at event
  · intro k tags' r r1 v held hr verdict kept
    have settles : (reply && s.settles side tag) = true ↔ settled := by
      rw [Bool.and_eq_true, settles_iff]
    have stepped : taken.tagStep side tag (reply && s.settles side tag) f.payload e = (kept, v) := by
      rw [tagStep_held now held hr, step_eq settles verdict]
    have forwarded (pass : v = .pass) :
        exec (.reception side f.bytes) s = .next (kept.forward side (e.applyTo tag f)).1.settle := by
      rw [event, dataOnward_pass filters (pass ▸ stepped)]
    refine ⟨fun pass hops room => ?_, fun pass spent => ?_, fun absorbed => ?_, fun absorbed => ?_⟩
    · rw [(forward_event (forwarded pass) still (.inl open_)).1 hops (roomy room)]
      simp only [crossed, onward_eq, hop]
    · obtain ⟨t, next, steady, banks, -, set, leaves⟩ := (forward_event (forwarded pass) still (.inl open_)).2 spent
      exact ⟨t, next, steady, banks, set, fun unreported => leaves ((congrArg _ station).trans unreported.2)⟩
    · rw [event, dataOnward_repeated filters (absorbed ▸ stepped)]
      exact congrArg Host.Outcome.next (State.settle_of_quiet still)
    · rw [event, dataOnward_unsettled filters (absorbed ▸ stepped)]
      exact congrArg Host.Outcome.next (State.settle_of_quiet still)
  · intro tags' new full hops
    set u : State := { taken with tags := tags' } with hu
    rw [dataOnward_pass filters (tagStep_full now new full), ← hu] at event
    have sent := grows_forward (s := u.setFlag .tagMemoryFull) (side := side) (f := e.applyTo tag f) hops
    refine ⟨_, event, (State.grows_settle _).steady.trans sent.steady,
      (State.grows_settle _).has (sent.has (State.has_setFlag u _)), fun unreported room => ?_⟩
    have silent : u.Unreported := ⟨still, (congrArg _ station).trans unreported.2⟩
    simp only [crossed, onward_eq, ← hop]
    exact flagged_crosses silent hops (roomy room) (.inl open_)

end Sys2Proof.Machine.ClassifierLaws
end

section
/-! The query proxy, row by row of Table 3-2 (R54 to R59), the settlement by a reply (R61), and what a QUERY frame under
a PROXY entry makes of each row (R23, R60). -/

namespace Sys2Proof.Machine.ProxyLaws

open DeliveryLaws ForwardLaws RecordLaws ClassifierLaws

variable {s u asked : State} {side : Side} {tag : Tag} {hop : Hop} {cls : FClass} {f : Frame} {e : Entry}
  {i : Fin 64} {k : Fin 48} {r : Record} {v : Payload} {tags : TagMemory} {result : ProxyResult}

/-! ## The outstanding list (R52, R61) -/

theorem keyed_iff {q : QueryEntry} {o : Side} : q.keyed o tag = true ↔ q.key = (o, tag) := by
  simp [QueryEntry.keyed, QueryEntry.key]

/-- The first entry that meets a test is the one that removing by the test removes. -/
theorem eraseP_of_find {l : List QueryEntry} {p : QueryEntry → Bool} {q : QueryEntry} (found : l.find? p = some q) :
    l.eraseP p = l.erase q := by
  induction l with
  | nil => cases found
  | cons x l ih =>
    cases meets : p x with
    | true =>
      rw [List.find?_cons_of_pos meets] at found
      cases found
      rw [List.eraseP_cons_of_pos meets, List.erase_cons_head]
    | false =>
      have off : ¬p x = true := by simp [meets]
      rw [List.find?_cons_of_neg off] at found
      have other : ¬(x == q) = true := by
        rw [beq_iff_eq]
        rintro rfl
        exact off (List.find?_some found)
      rw [List.eraseP_cons_of_neg off, List.erase_cons_tail other, ih found]

/-- A reply removes the entry of its key, unbinds its record and counts *settled* (R61). -/
theorem settleReply_found {q : QueryEntry} (found : s.proxy.find side tag = some q)
    (hr : s.tags.records[q.record] = some r) :
    s.settleReply side tag =
      { s with
        proxy :=
          { list := s.proxy.list.erase q
            counters := s.proxy.counters.modify side.far fun c => { c with settled := bump c.settled } }
        tags := { s.tags with records := s.tags.records.set q.record (some { r with bound := false }) } } := by
  obtain ⟨-, target, key⟩ := Proxy.find_some found
  have erased : s.proxy.list.eraseP (·.keyed q.target q.tag) = s.proxy.list.erase q := by
    rw [target, key]
    exact eraseP_of_find found
  have removed : s.removeQuery q =
      { s with
        proxy := { s.proxy with list := s.proxy.list.erase q }
        tags := { s.tags with records := s.tags.records.set q.record (some { r with bound := false }) } } := by
    simp only [State.removeQuery, TagMemory.bind, modify_eq hr, erased]
  unfold State.settleReply
  rw [found]
  dsimp only
  rw [removed]
  rfl

theorem settleReply_unknown (unknown : ∀ q ∈ s.proxy.list, q.key ≠ (side, tag)) : s.settleReply side tag = s := by
  have none : s.proxy.find side tag = none :=
    Proxy.find_none.2 fun q mem same => unknown q mem (Prod.ext same.1 same.2)
  unfold State.settleReply
  rw [none]

/-! ## Row 1: the answer (R55, R56) -/

/-- An answer with room is queued; admission tells nothing more. -/
theorem answerQuery_room (gate : s.trip.state ≠ .tripped) (room : s.Room side) :
    s.answerQuery side tag v cls =
      (s.enqueue side (answerFrame s.agent.params tag v cls)).countProxy side fun c =>
        { c with answered := bump c.answered } := by
  unfold State.answerQuery
  rw [State.admit_room room (.inl gate)]
  rfl

/-- Toward a side that takes no frames the answer is refused and counted so (R56). -/
theorem answerQuery_shut (shut : (s.ports.get side).state.accepts = false) :
    s.answerQuery side tag v cls =
      (s.countQueue side fun c => { c with notAccepting := bump c.notAccepting }).countProxy side fun c =>
        { c with answered := bump c.answered, answerRefused := bump c.answerRefused } := by
  unfold State.answerQuery
  rw [QueueLaws.admit_notAccepting shut]
  rfl

/-- Record `k` of value `r` looked up: its last use is set (R35). -/
def touch (k : Fin 48) (r : Record) (s : State) : State :=
  { s with tags := { s.tags with records := s.tags.records.set k (some { r with lastUse := s.now }) } }

/-- A FRESH record answers, its last use set (R54 row 1, R55). -/
theorem proxyStep_fresh (found : s.tags.find side.far tag = some k) (hr : s.tags.records[k] = some r)
    (fresh : r.freshness = .fresh) (held : r.held = some v) :
    s.proxyStep side tag hop cls = ((touch k r s).answerQuery side tag v cls, .answered) := by
  have value : TagMemory.freshValue
      { s.tags with records := s.tags.records.set k (some { r with lastUse := s.now }) } k = some v := by
    have at_k : (s.tags.records.set k (some { r with lastUse := s.now }))[k] = some { r with lastUse := s.now } :=
      (getElem_set _ _ _ _).trans (if_pos rfl)
    unfold TagMemory.freshValue
    rw [at_k]
    exact (if_pos fresh).trans held
  unfold State.proxyStep
  rw [lookup_some found hr]
  simp only [Option.bind_some, value]
  rfl

/-! ## A QUERY frame under a PROXY entry (R23) -/

theorem queryUnder_ended (proxy : e.action = .proxy)
    (step : s.proxyStep side tag f.hop (e.classOf f.cls) = (u, result))
    (ends : result = .answered ∨ result = .coalesced) : s.queryUnder side tag f e = u := by
  unfold State.queryUnder
  rw [proxy]
  dsimp only
  rw [step]
  rcases ends with rfl | rfl <;> rfl

theorem queryUnder_tracked (proxy : e.action = .proxy)
    (step : s.proxyStep side tag f.hop (e.classOf f.cls) = (u, .tracked)) :
    s.queryUnder side tag f e = u.forwardTracked side tag (e.applyTo tag f) := by
  unfold State.queryUnder
  rw [proxy]
  dsimp only
  rw [step]

theorem queryUnder_untracked (proxy : e.action = .proxy)
    (step : s.proxyStep side tag f.hop (e.classOf f.cls) = (u, .untracked)) :
    s.queryUnder side tag f e = (u.forward side (e.applyTo tag f)).1 := by
  unfold State.queryUnder
  rw [proxy]
  dsimp only
  rw [step]

/-- The payload of a QUERY is empty, so its frame fits. -/
theorem fits_of_empty (empty : f.payload = []) : f.payload.length ≤ Config.payload := by
  rw [empty]
  exact Nat.zero_le _

/-- A QUERY that wins an entry: the event is what the entry makes of it. -/
theorem exec_query_won (takes : s.Receives side) (body : f.body = .query false tag) (empty : f.payload = [])
    (gate : s.trip.state ≠ .tripped) (wins : s.banks.active.winner side true tag = some i)
    (is : e = s.banks.active.entries[i]) :
    exec (.reception side f.bytes) s =
      .next
        (((((s.heard side).countClassifier side fun c => { c with queryTaken := bump c.queryTaken }).hit i).queryUnder
          side tag f e).settle) := by
  rw [exec_received takes (fits_of_empty empty),
    classify_query_won (s := s.heard side) (reply := false) body empty gate wins, is]
  rfl

/-- Settles O19: row 1 of Table 3-2 and the settlement, and the event that row 1 ends. -/
theorem freshRecordsAnswerAndRepliesSettle : Obligations.FreshRecordsAnswerAndRepliesSettle := by
  unfold Obligations.FreshRecordsAnswerAndRepliesSettle
  refine ⟨fun side tag hop cls k r v s found hr fresh held gate room => ?_,
    ?_, fun side tag q r s found hr => settleReply_found found hr,
    fun side tag s unknown => settleReply_unknown unknown⟩
  · rw [proxyStep_fresh found hr fresh held, answerQuery_room (s := touch k r s) gate room]
    rfl
  · intro side f tag i e k r v s takes quiet body empty gate wins is proxy found hr fresh held taken
    have event := exec_query_won takes body empty gate wins is
    have step := proxyStep_fresh (hop := f.hop) (cls := e.classOf f.cls)
      (s := ((s.heard side).countClassifier side fun c => { c with queryTaken := bump c.queryTaken }).hit i)
      found hr fresh held
    have touched : touch k r (((s.heard side).countClassifier side fun c =>
        { c with queryTaken := bump c.queryTaken }).hit i) = taken := rfl
    rw [queryUnder_ended proxy step (.inl rfl), touched] at event
    refine ⟨fun room => ?_, fun silent => ?_⟩
    · have roomy : taken.Room side := (room_congr (heard_state s side) rfl rfl).2 room
      refine event.trans (congrArg Host.Outcome.next ?_)
      rw [answerQuery_room (s := taken) gate roomy]
      exact State.settle_of_quiet (s := State.countProxy _ _ _) quiet
    · have shut : (taken.ports.get side).state.accepts = false := by
        have same : (taken.ports.get side).state = .silent := (heard_state s side side).trans silent
        rw [same]
        rfl
      refine event.trans (congrArg Host.Outcome.next ?_)
      rw [answerQuery_shut (s := taken) shut]
      exact State.settle_of_quiet (s := State.countProxy _ _ _) quiet

end Sys2Proof.Machine.ProxyLaws
end

section
/-! Queries that no FRESH record answers: rows 2 to 6 of Table 3-2 (R54, R57 to R59), what they change, and the hand-off
of a QUERY that is tracked or left untracked (R23, R60). -/

namespace Sys2Proof.Machine.ProxyLaws

open DeliveryLaws ForwardLaws RecordLaws ClassifierLaws

variable {s t u asked : State} {side o : Side} {tag : Tag} {hop : Hop} {cls : FClass} {f : Frame} {e : Entry}
  {i : Fin 64} {k : Fin 48} {r : Record} {v : Payload} {looked tags : TagMemory} {result : ProxyResult}
  {found : Option (Fin 48)} {now : CTime}

/-! ## The lookup -/

theorem lookup_found (t : TagMemory) (o : Side) (tag : Tag) (now : CTime) :
    (t.lookup o tag now).2 = t.find o tag := by
  unfold TagMemory.lookup
  cases t.find o tag <;> rfl

/-- The memory that a lookup leaves: the record found, if any, has its last use set (R35). -/
theorem lookup_left (touched : ∀ i ∈ s.tags.find o tag, looked = { s.tags with
      records := s.tags.records.set i ((s.tags.records[i]).map fun r => { r with lastUse := s.now }) })
    (same : s.tags.find o tag = none → looked = s.tags) : (s.tags.lookup o tag s.now).1 = looked := by
  unfold TagMemory.lookup
  cases found : s.tags.find o tag with
  | none => exact (same found).symm
  | some k => exact (touched k found).symm

/-- The state that the lookup of a QUERY leaves (R35). -/
def lookedUp (side : Side) (tag : Tag) (s : State) : State :=
  { s with tags := (s.tags.lookup side.far tag s.now).1 }

/-- The proxy step answers, or it takes rows 2 to 6 with what the lookup left. -/
theorem proxyStep_cases (s : State) (side : Side) (tag : Tag) (hop : Hop) (cls : FClass) :
    (s.proxyStep side tag hop cls).2 = .answered ∨
      s.proxyStep side tag hop cls =
        (lookedUp side tag s).askAcross side tag hop cls (s.tags.find side.far tag) := by
  rw [← lookup_found s.tags side.far tag s.now]
  unfold State.proxyStep
  dsimp only
  split
  · exact .inl rfl
  · exact .inr rfl

/-- Without a FRESH record it takes rows 2 to 6. -/
theorem proxyStep_ask (stale : ∀ i ∈ s.tags.find side.far tag, ∀ r ∈ s.tags.records[i], r.freshness ≠ .fresh) :
    s.proxyStep side tag hop cls =
      (lookedUp side tag s).askAcross side tag hop cls (s.tags.find side.far tag) := by
  have silent : (s.tags.find side.far tag).bind (s.tags.lookup side.far tag s.now).1.freshValue = none := by
    rcases lookup_cases s.tags side.far tag s.now with ⟨new, -⟩ | ⟨k, r, found, hr, -, left⟩
    · rw [new]
      rfl
    · have at_k : (s.tags.records.set k (some { r with lastUse := s.now }))[k] = some { r with lastUse := s.now } :=
        (getElem_set _ _ _ _).trans (if_pos rfl)
      rw [found, left, Option.bind_some]
      unfold TagMemory.freshValue
      rw [at_k]
      exact if_neg (stale k found r hr)
  unfold State.proxyStep
  dsimp only
  rw [lookup_found, silent]
  rfl

/-! ## Rows 2 to 5 (R57, R59) -/

theorem find_isSome : (s.proxy.find o tag).isSome = true ↔ ∃ q ∈ s.proxy.list, q.key = (o, tag) := settles_iff

/-- A query of a key in the list is counted there (R57). -/
theorem askAcross_coalesces (listed : ∃ q ∈ s.proxy.list, q.key = (side.far, tag)) :
    s.askAcross side tag hop cls found =
      ({ s with
          proxy :=
            { list := s.proxy.list.map fun q =>
                if q.key = (side.far, tag) then { q with coalesced := min (q.coalesced + 1) 255 } else q
              counters := s.proxy.counters.modify side fun c => { c with coalesced := bump c.coalesced } } },
        .coalesced) := by
  have counts : (fun q : QueryEntry => if q.keyed side.far tag then q.coalesce else q) =
      fun q => if q.key = (side.far, tag) then { q with coalesced := min (q.coalesced + 1) 255 } else q :=
    funext fun q => if_congr keyed_iff rfl rfl
  unfold State.askAcross
  rw [if_pos (find_isSome.2 listed)]
  unfold State.coalesceQuery
  rw [counts]
  rfl

section Unlisted

variable (unlisted : ∀ q ∈ s.proxy.list, q.key ≠ (side.far, tag))
include unlisted

theorem find_unlisted : ¬(s.proxy.find side.far tag).isSome = true := by
  rw [find_isSome]
  rintro ⟨q, mem, key⟩
  exact unlisted q mem key

theorem askAcross_spent : s.askAcross side tag 0 cls found = (s, .untracked) := by
  unfold State.askAcross
  rw [if_neg (find_unlisted unlisted), if_pos rfl]

/-- A full list leaves the query untracked (R59). -/
theorem askAcross_full (hops : hop ≠ 0) (full : Config.outstanding ≤ s.proxy.list.length) :
    s.askAcross side tag hop cls found = (s.leaveUntracked side, .untracked) := by
  unfold State.askAcross
  rw [if_neg (find_unlisted unlisted), if_neg hops, if_pos full]

/-- No record to be had leaves the query untracked (R59). -/
theorem askAcross_noRecord (hops : hop ≠ 0) (few : s.proxy.list.length < Config.outstanding)
    (full : s.tags.allocate side.far tag s.now = (tags, none)) :
    s.askAcross side tag hop cls none =
      (({ s with tags := tags }.setFlag .tagMemoryFull).leaveUntracked side, .untracked) := by
  unfold State.askAcross
  rw [if_neg (find_unlisted unlisted), if_neg hops, if_neg (Nat.not_le.2 few)]
  dsimp only
  rw [full]

/-- Otherwise the query is tracked, with the record found or with one allocated (R58). -/
theorem askAcross_found (hops : hop ≠ 0) (few : s.proxy.list.length < Config.outstanding) :
    s.askAcross side tag hop cls (some k) = (s.trackQuery side tag cls k, .tracked) := by
  unfold State.askAcross
  rw [if_neg (find_unlisted unlisted), if_neg hops, if_neg (Nat.not_le.2 few)]

theorem askAcross_allocates (hops : hop ≠ 0) (few : s.proxy.list.length < Config.outstanding)
    (made : s.tags.allocate side.far tag s.now = (tags, some k)) :
    s.askAcross side tag hop cls none = ({ s with tags := tags }.trackQuery side tag cls k, .tracked) := by
  unfold State.askAcross
  rw [if_neg (find_unlisted unlisted), if_neg hops, if_neg (Nat.not_le.2 few)]
  dsimp only
  rw [made]

/-- The record that a tracked query binds has its last use set, whether found or allocated (R35, R58). -/
theorem askAcross_tracks (hops : hop ≠ 0) (few : s.proxy.list.length < Config.outstanding)
    (held : HeldBy s.tags side.far tag s.now k tags) (hr : tags.records[k] = some r) :
    (lookedUp side tag s).askAcross side tag hop cls (s.tags.find side.far tag) =
      ({ s with
          tags := { tags with records := tags.records.set k (some { r with lastUse := s.now }) } }.trackQuery side tag
          cls k, .tracked) := by
  unfold lookedUp
  rcases held with ⟨found, rfl⟩ | ⟨new, made⟩
  · rw [found, lookup_some found hr]
    exact askAcross_found (s := { s with tags := _ }) unlisted hops few
  · rw [new, lookup_none new, touch_allocated made hr]
    exact askAcross_allocates (s := s) unlisted hops few made

end Unlisted

/-! ## Row 6 (R58) -/

/-- The entry that a tracked query makes (Table 3-1). -/
def trackedEntry (side : Side) (tag : Tag) (cls : FClass) (k : Fin 48) (s : State) : QueryEntry where
  tag := tag
  target := side.far
  deadline := s.now + s.agent.params.queryTimeout.setWidth 32
  coalesced := 1
  cls := cls
  record := k

/-- A record written and then bound or unbound. -/
theorem bind_written (tags : TagMemory) (k : Fin 48) (r : Record) (bound : Bool) :
    TagMemory.bind { tags with records := tags.records.set k (some r) } k bound =
      { tags with records := tags.records.set k (some { r with bound := bound }) } := by
  have at_k : (tags.records.set k (some r))[k] = some r := (getElem_set _ _ _ _).trans (if_pos rfl)
  unfold TagMemory.bind
  rw [modify_eq (t := { tags with records := tags.records.set k (some r) }) at_k]
  simp only [Vector.set_set]

/-- A tracked query adds its entry at the list's end and binds its record (R58). -/
theorem trackQuery_eq :
    { s with tags := { tags with records := tags.records.set k (some r) } }.trackQuery side tag cls k =
      { s with
        tags := { tags with records := tags.records.set k (some { r with bound := true }) }
        proxy :=
          { list := s.proxy.list ++ [trackedEntry side tag cls k s]
            counters := s.proxy.counters.modify side fun c => { c with tracked := bump c.tracked } } } := by
  unfold State.trackQuery
  dsimp only
  rw [bind_written]
  rfl

/-- Only a query with hops left, of a key that the list lacks, is tracked (R54, R58). -/
theorem askAcross_tracked (tracked : s.askAcross side tag hop cls found = (asked, .tracked)) :
    hop ≠ 0 ∧ s.proxy.find side.far tag = none ∧ s.proxy.list.length < Config.outstanding := by
  unfold State.askAcross at tracked
  split at tracked
  · cases tracked
  · next unlisted =>
    split at tracked
    · cases tracked
    · next hops =>
      split at tracked
      · cases tracked
      · next few => exact ⟨hops, by simpa using unlisted, Nat.lt_of_not_le few⟩

/-- What rows 2 to 6 change: records, list and proxy counters, and flags where the query is left untracked. -/
theorem askAcross_rest (step : s.askAcross side tag hop cls found = (asked, result)) :
    ∃ tags proxy events, asked = { s with tags := tags, proxy := proxy, events := events } ∧
      (result ≠ .untracked → events = s.events) ∧
      (s.agent.params.reportStation = stationNone → events.reports = s.events.reports) := by
  have silent (flags : List Flag) (nobody : s.agent.params.reportStation = stationNone) :
      (flags.foldl (fun ev f => ev.setFlag s.agent.params s.now f) s.events).reports = s.events.reports := by
    simp only [Events.setFlag_unreported _ _ _ _ nobody]
    exact AgentLaws.foldl_mark_reports flags s.events
  unfold State.askAcross at step
  repeat' split at step
  all_goals cases step
  · exact ⟨s.tags, _, s.events, rfl, fun _ => rfl, fun _ => rfl⟩
  · exact ⟨s.tags, s.proxy, s.events, rfl, fun _ => rfl, fun _ => rfl⟩
  · exact ⟨s.tags, _, _, rfl, fun tracked => absurd rfl tracked, silent [.queryUntracked]⟩
  · exact ⟨_, _, s.events, rfl, fun _ => rfl, fun _ => rfl⟩
  · exact ⟨_, _, s.events, rfl, fun _ => rfl, fun _ => rfl⟩
  · exact ⟨_, _, _, rfl, fun tracked => absurd rfl tracked, silent [.tagMemoryFull, .queryUntracked]⟩

/-- What a proxy step without an answer changes. -/
theorem proxyStep_rest (step : s.proxyStep side tag hop cls = (asked, result)) (asks : result ≠ .answered) :
    ∃ tags proxy events, asked = { s with tags := tags, proxy := proxy, events := events } ∧
      (result ≠ .untracked → events = s.events) ∧
      (s.agent.params.reportStation = stationNone → events.reports = s.events.reports) := by
  rcases proxyStep_cases s side tag hop cls with answered | rows
  · rw [step] at answered
    exact absurd answered asks
  · rw [step] at rows
    obtain ⟨tags, proxy, events, eq, kept, silent⟩ := askAcross_rest rows.symm
    exact ⟨tags, proxy, events, eq, kept, silent⟩

/-- A tracked query came through row 6 (R58). -/
theorem proxyStep_tracked (step : s.proxyStep side tag hop cls = (asked, .tracked)) :
    hop ≠ 0 ∧ (∀ q ∈ s.proxy.list, q.key ≠ (side.far, tag)) ∧ s.proxy.list.length < Config.outstanding ∧
      (lookedUp side tag s).askAcross side tag hop cls (s.tags.find side.far tag) = (asked, .tracked) := by
  rcases proxyStep_cases s side tag hop cls with answered | rows
  · rw [step] at answered
    cases answered
  · rw [step] at rows
    obtain ⟨hops, absent, few⟩ := askAcross_tracked rows.symm
    refine ⟨hops, fun q mem key => ?_, few, rows.symm⟩
    obtain ⟨target, same⟩ := Prod.mk.inj key
    exact Proxy.find_none.1 absent q mem ⟨target, same⟩

/-! ## The hand-off (R23, R60) -/

theorem forwardTracked_crosses (hops : f.hop ≠ 0) (room : s.Room side.far) (gate : s.trip.state ≠ .tripped) :
    s.forwardTracked side tag f =
      (s.countClassifier side fun c => { c with forwarded := bump c.forwarded }).enqueue side.far
        { f with hop := f.hop - 1 } := by
  unfold State.forwardTracked
  rw [forward_crosses hops room (.inl gate)]

/-- A tracked query that admission refuses is withdrawn. -/
theorem forwardTracked_refused {why : AdmissionRefusal} (hops : f.hop ≠ 0)
    (refused : (s.countClassifier side fun c => { c with forwarded := bump c.forwarded }).admitFrame side.far
      { f with hop := f.hop - 1 } = (u, .refused why)) :
    s.forwardTracked side tag f = u.withdrawQuery side tag := by
  have forwarded : s.forward side f = (u, some (.refused why)) := by
    unfold State.forward
    rw [if_neg hops, refused]
  unfold State.forwardTracked
  rw [forwarded]

/-- The entry just added is the one withdrawn, and its record is unbound again (R60). -/
theorem withdrawQuery_tracked {l : List QueryEntry} {counters : PerSide ProxyCounters}
    (memory : u.tags = { tags with records := tags.records.set k (some r) })
    (listed : u.proxy = { list := l ++ [trackedEntry side tag cls k t], counters := counters })
    (unlisted : ∀ q ∈ l, ¬q.keyed side.far tag = true) :
    u.withdrawQuery side tag =
      { u with
        tags := { tags with records := tags.records.set k (some { r with bound := false }) }
        proxy :=
          { list := l, counters := counters.modify side fun c => { c with withdrawn := bump c.withdrawn } } } := by
  have own : (trackedEntry side tag cls k t).keyed side.far tag = true := keyed_iff.2 rfl
  have found : u.proxy.find side.far tag = some (trackedEntry side tag cls k t) := by
    rw [listed]
    unfold Proxy.find
    dsimp only
    rw [List.find?_append, List.find?_eq_none.2 unlisted, Option.none_or,
      List.find?_cons_of_pos (p := fun q : QueryEntry => q.keyed side.far tag) own]
  have erased : u.proxy.list.eraseP (·.keyed side.far tag) = l := by
    rw [listed]
    dsimp only
    rw [List.eraseP_append_right _ unlisted,
      List.eraseP_cons_of_pos (p := fun q : QueryEntry => q.keyed side.far tag) own, List.append_nil]
  have removed : u.removeQuery (trackedEntry side tag cls k t) =
      { u with
        tags := { tags with records := tags.records.set k (some { r with bound := false }) }
        proxy := { list := l, counters := counters } } := by
    have unbound := bind_written tags k r false
    rw [← memory] at unbound
    unfold State.removeQuery
    simp only [trackedEntry, erased, unbound]
    rw [listed]
  unfold State.withdrawQuery
  rw [found]
  dsimp only
  rw [removed]
  rfl

/-- The frame of a QUERY under PROXY keeps its tag. -/
theorem applyTo_proxy (proxy : e.action = .proxy) (body : f.body = .query false tag) (empty : f.payload = []) :
    { e.applyTo tag f with hop := f.hop - 1 } =
      ({ body := .query false tag, cls := e.setClass.getD f.cls, hop := f.hop - 1, payload := [] } : Frame) := by
  have kept : e.tagOf tag = tag := if_neg (by simp [proxy])
  rw [applyTo_onward (query := true) (reply := false) body, kept, empty]
  rfl

/-- Settles O20: the rows of Table 3-2, and the event of each result. -/
theorem queriesCoalesceOrAreTracked : Obligations.QueriesCoalesceOrAreTracked := by
  unfold Obligations.QueriesCoalesceOrAreTracked
  refine ⟨?_, ?_⟩
  · intro side tag hop cls looked s stale touched same counted
    have left : lookedUp side tag s = { s with tags := looked } := by
      unfold lookedUp
      rw [lookup_left touched same]
    have rows := proxyStep_ask (hop := hop) (cls := cls) stale
    refine ⟨fun listed => ?_, fun unlisted => ⟨fun spent => ?_, fun hops full => ?_, fun hops few t' new full => ?_,
      fun hops few k t' r held hr => ?_⟩⟩
    · rw [rows, left, askAcross_coalesces (s := { s with tags := looked }) listed]
    · subst spent
      rw [rows, left, askAcross_spent (s := { s with tags := looked }) unlisted]
    · rw [rows, left, askAcross_full (s := { s with tags := looked }) unlisted hops full]
      rfl
    · rw [rows, left, new, same new, askAcross_noRecord (s := s) unlisted hops few full]
      rfl
    · rw [rows, askAcross_tracks unlisted hops few held hr, trackQuery_eq]
      rfl
  · intro side f tag i e taken asked result s takes quiet body empty gate wins is proxy taken_eq step counted dropped
      onward
    have event := exec_query_won takes body empty gate wins is
    rw [← taken_eq] at event
    have onward_eq : { e.applyTo tag f with hop := f.hop - 1 } = onward := applyTo_proxy proxy body empty
    have frame (asks : result ≠ .answered) : asked.agent.params = s.agent.params ∧ asked.trip.state ≠ .tripped ∧
        (s.Room side.far → asked.Room side.far) ∧
        (result ≠ .untracked ∨ s.agent.params.reportStation = stationNone → asked.Quiet) := by
      obtain ⟨tags, list, events, rfl, kept, silent⟩ := proxyStep_rest step asks
      subst taken_eq
      refine ⟨rfl, gate, (room_congr (heard_state s side) rfl rfl).2, fun cause => ?_⟩
      refine (State.quiet_congr ?_).2 quiet
      rcases cause with tracked | nobody
      · exact congrArg Events.reports (kept tracked)
      · exact silent nobody
    refine ⟨?_, ?_, ?_, ?_, ?_⟩
    · rintro rfl
      rw [event, queryUnder_ended proxy step (.inr rfl)]
      exact congrArg Host.Outcome.next (State.settle_of_quiet ((frame (by decide)).2.2.2 (.inl (by decide))))
    · rintro rfl spent
      obtain ⟨params, -, -, still⟩ := frame (by decide)
      rw [queryUnder_untracked proxy step, forward_expires (f := e.applyTo tag f) spent] at event
      obtain ⟨t, next, steady, banks, -, set, leaves⟩ := flagged_event event
      exact ⟨t, next, steady, banks, set, fun unreported =>
        leaves ⟨still (.inr unreported.2), (congrArg _ params).trans unreported.2⟩⟩
    · rintro rfl hops unreported room
      obtain ⟨-, open_, roomy, still⟩ := frame (by decide)
      rw [queryUnder_untracked proxy step] at event
      rw [(forward_event event (still (.inr unreported.2)) (.inl open_)).1 hops (roomy room), ← onward_eq]
      rfl
    · rintro rfl room
      obtain ⟨-, open_, roomy, still⟩ := frame (by decide)
      obtain ⟨hops, -⟩ := proxyStep_tracked step
      rw [event, queryUnder_tracked proxy step,
        forwardTracked_crosses (f := e.applyTo tag f) hops (roomy room) open_, ← onward_eq]
      exact congrArg Host.Outcome.next
        (State.settle_of_quiet (s := State.enqueue _ _ _) (still (.inl (by decide))))
    · rintro rfl u why k t' r refused settled held hr
      obtain ⟨hops, unlisted, few, rows⟩ := proxyStep_tracked step
      subst taken_eq
      have tracked := (rows.symm.trans (askAcross_tracks unlisted hops few held hr)).trans
        (congrArg (·, ProxyResult.tracked) trackQuery_eq)
      have grown := counted.grows_admit side.far onward
      rw [refused] at grown
      obtain ⟨-, -, -, memory, listed, -⟩ := grown.rest
      rw [event, queryUnder_tracked proxy step,
        forwardTracked_refused (f := e.applyTo tag f) hops (onward_eq.symm ▸ refused)]
      have withdrawn := withdrawQuery_tracked (memory.trans (congrArg (fun x => x.1.tags) tracked))
        (listed.trans (congrArg (fun x => x.1.proxy) tracked)) fun q mem => mt keyed_iff.1 (unlisted q mem)
      rw [withdrawn, PerSide.modify_modify]
      exact congrArg Host.Outcome.next (State.settle_of_quiet ((State.quiet_congr rfl).2 settled))

end Sys2Proof.Machine.ProxyLaws
end

section
/-! Assertions of trip sources (R133, R135), entry into TRIPPED (R65, R91, R137), and the DATA frames and the window
that lead there or not (R20, R136). -/

namespace Sys2Proof.Machine.TripLaws

open DeliveryLaws ForwardLaws RecordLaws ClassifierLaws

variable {s u offered : State} {side : Side} {tag : Tag} {k : Fin 4} {f : Frame} {e : Entry} {i : Fin 64}
  {reply settled : Bool} {payload : Payload}

/-! ## What asserts a source (R133) -/

theorem asserts_iff {c : TripConfig} :
    c.asserts k payload = true ↔
      ∃ d b, c.sources[k] = some d ∧ payload[d.offset]? = some b ∧ b &&& d.mask = d.value &&& d.mask := by
  unfold TripConfig.asserts
  cases source : c.sources[k] with
  | none => simp
  | some d =>
    dsimp only
    unfold TripSource.asserts
    cases byte : payload[d.offset]? with
    | none => simp [byte]
    | some b => simp [byte]

/-! ## Entry into TRIPPED (R65, R91, R137) -/

/-- What the trip purge leaves of a queue (R91). -/
theorem tripPurge_get (s : State) (side : Side) :
    ((s.tripPurge side).queues.frames.get side =
      ((s.queues.frames.get side).filter fun y => !(y.frame.traffic && !y.onLine)).map fun y =>
        if y.frame.traffic = true ∧ y.mark = .none then { y with mark := .isolated } else y) ∧
    (s.tripPurge side).queues.frames.get side.far = s.queues.frames.get side.far := by
  have marks : (fun y : QFrame => if y.frame.traffic then y.marked .isolated else y) =
      fun y => if y.frame.traffic = true ∧ y.mark = .none then { y with mark := .isolated } else y := by
    funext y
    rw [ite_and]
    rfl
  unfold State.tripPurge
  rw [marks]
  exact ⟨PerSide.get_modify _ _ _, PerSide.get_far_modify _ _ _⟩

/-- The clearing of the list unbinds the records that its entries name and touches no count of the tag memory (R65). -/
theorem foldl_clearEntry_tags (l : List QueryEntry) (s : State) :
    (l.foldl clearEntry s).tags.counters = s.tags.counters ∧
      ∀ j : Fin 48, (l.foldl clearEntry s).tags.records[j] =
        if ∃ q ∈ l, q.record = j then (s.tags.records[j]).map fun r => { r with bound := false }
        else s.tags.records[j] := by
  induction l generalizing s with
  | nil => exact ⟨rfl, fun j => by simp⟩
  | cons q l ih =>
    obtain ⟨counters, records⟩ := ih (clearEntry s q)
    refine ⟨counters, fun j => ?_⟩
    have first : (clearEntry s q).tags.records[j] =
        if q.record = j then (s.tags.records[j]).map fun r => { r with bound := false } else s.tags.records[j] :=
      TagMemory.modify_records s.tags q.record j fun r => { r with bound := false }
    rw [List.foldl_cons, records j, first]
    by_cases here : q.record = j
    · by_cases later : ∃ x ∈ l, x.record = j <;> simp [here, later, Option.map_map, Function.comp_def]
    · simp [here]

/-- A cleared list leaves no record bound (R39, R65). -/
theorem clearQueries_records (bindings : s.BindingsOk) (j : Fin 48) :
    s.clearQueries.tags.records[j] = (s.tags.records[j]).map fun r => { r with bound := false } := by
  obtain ⟨-, -, -, named⟩ := bindings
  have cleared := (foldl_clearEntry_tags s.proxy.list s).2 j
  rw [clearQueries_eq]
  refine cleared.trans ?_
  split
  · rfl
  · next unnamed =>
    cases held : s.tags.records[j] with
    | none => rfl
    | some r =>
      have free : r.bound = false := by
        by_contra bound
        exact unnamed (named j r held (by simpa using bound))
      rw [Option.map_some, ← free]

/-- What entry into TRIPPED does beside the trip unit. -/
structure Tripped (s t : State) : Prop where
  flag     : t.events.has .tripped = true
  queues   : BothSides fun sd => t.queues.frames.get sd =
    ((s.queues.frames.get sd).filter fun y => !(y.frame.traffic && !y.onLine)).map fun y =>
      if y.frame.traffic = true ∧ y.mark = .none then { y with mark := .isolated } else y
  list     : t.proxy.list = []
  records  : s.BindingsOk → ∀ j : Fin 48, t.tags.records[j] = (s.tags.records[j]).map fun r => { r with bound := false }
  counters : t.tags.counters = s.tags.counters
  banks    : t.banks = s.banks
  ports    : t.ports = s.ports
  agent    : t.agent = s.agent
  image    : t.image = s.image
  silent   : s.Unreported → t.events = s.events.mark .tripped

theorem tripped_enterTripped (s : State) (k : Fin 4) (side : Side) (tag : Tag) :
    Tripped s (s.enterTripped k side tag) := by
  unfold State.enterTripped
  set entered : State := State.setFlag .tripped _ with entered_eq
  obtain ⟨list, banks, queues, ports, -, agent, events, image, -⟩ :=
    ((entered.tripPurge .a).tripPurge .b).clearQueries_keeps
  obtain ⟨purgedA, keptB⟩ := tripPurge_get entered .a
  obtain ⟨purgedB, keptA⟩ := tripPurge_get (entered.tripPurge .a) .b
  refine ⟨?_, ⟨?_, ?_⟩, list, fun bindings j => ?_, ?_, banks, ports, agent, image,
    fun unreported => ?_⟩
  · rw [events]
    exact State.has_setFlag _ _
  · rw [queues]
    exact keptA.trans purgedA
  · rw [queues]
    exact purgedB.trans (by rw [show (entered.tripPurge .a).queues.frames.get .b = _ from keptB]; rfl)
  · exact clearQueries_records (s := (entered.tripPurge .a).tripPurge .b) bindings j
  · rw [clearQueries_eq]
    exact (foldl_clearEntry_tags _ _).1
  · rw [events]
    exact congrArg State.events (mark_unreported (f := .tripped) (s := { s with trip := _ }) unreported)

/-! ## Assertions (R135) -/

/-- An assertion that only counts: of a source not required, asserted already, or in a unit that does not collect. -/
def OnlyCounts (k : Fin 4) (s : State) : Prop :=
  s.trip.config.required.getLsbD k.val = false ∨ s.trip.state = .disarmed ∨ s.trip.state = .tripped ∨
    s.trip.state = .collecting ∧ s.trip.asserted.getLsbD k.val = true

/-- The unit is WATCHING, so that an assertion begins a collection. -/
def begins (s : State) : Bool := s.trip.state = .watching

/-- The unit with an assertion of source `k` counted, and the collection that it begins or finds (R135). -/
def collecting (k : Fin 4) (s : State) : State :=
  { s with
    trip :=
      { s.trip with
        state := .collecting
        asserted := if begins s then 0 else s.trip.asserted
        deadline := if begins s then some (s.now + s.trip.config.window.setWidth 32) else s.trip.deadline
        counters :=
          { s.trip.counters with
            assertions := s.trip.counters.assertions.set k (bump s.trip.counters.assertions[k])
            collections := if begins s then bump s.trip.counters.collections else s.trip.counters.collections } } }

theorem assertSource_counts (counts : OnlyCounts k s) :
    s.assertSource k side tag =
      (s.countTrip fun c => { c with assertions := c.assertions.set k (bump c.assertions[k]) }, false) := by
  unfold State.assertSource
  dsimp only
  split
  · rfl
  · next needed =>
    rcases counts with off | state | state | ⟨state, asserted⟩
    · exact absurd (by rw [off]; rfl) needed
    · rw [state]
    · rw [state]
    · rw [state]
      exact if_pos asserted

/-- An assertion that does not only count adds its source to a collection. -/
theorem assertSource_collects (needed : s.trip.config.required.getLsbD k.val = true)
    (takes : s.trip.state = .watching ∨ s.trip.state = .collecting ∧ s.trip.asserted.getLsbD k.val = false) :
    s.assertSource k side tag = (collecting k s).collect k side tag := by
  unfold State.assertSource
  dsimp only
  rw [if_neg (by simp [needed])]
  rcases takes with state | ⟨state, new⟩
  · have begun : collecting k s = (s.countTrip fun c =>
        { c with assertions := c.assertions.set k (bump c.assertions[k]) }).beginCollection := by
      have starts : begins s = true := decide_eq_true state
      simp only [collecting, starts, if_true]
      rfl
    rw [begun, state]
  · have counted : collecting k s =
        s.countTrip fun c => { c with assertions := c.assertions.set k (bump c.assertions[k]) } := by
      have goesOn : begins s = false := decide_eq_false (by rw [state]; decide)
      simp only [collecting, goesOn, State.countTrip, state, Bool.false_eq_true, if_false]
    rw [counted, state]
    exact if_neg (by rw [new]; decide)

theorem counts_or_collects (k : Fin 4) (s : State) :
    OnlyCounts k s ∨ s.trip.config.required.getLsbD k.val = true ∧
      (s.trip.state = .watching ∨ s.trip.state = .collecting ∧ s.trip.asserted.getLsbD k.val = false) := by
  unfold OnlyCounts
  cases s.trip.config.required.getLsbD k.val <;> cases s.trip.state <;> cases s.trip.asserted.getLsbD k.val <;> simp

/-- A completed set trips the unit (R137). -/
theorem collect_completes (full : s.trip.asserted ||| sourceBit k = s.trip.config.required) :
    s.collect k side tag = (s.enterTripped k side tag, true) := if_pos full

theorem collect_adds (open_ : s.trip.asserted ||| sourceBit k ≠ s.trip.config.required) :
    s.collect k side tag = ({ s with trip := { s.trip with asserted := s.trip.asserted ||| sourceBit k } }, false) :=
  if_neg open_

/-- Every assertion trips the unit or changes the unit alone, and does not leave it TRIPPED unless it was. -/
theorem assertSource_cases (s : State) (k : Fin 4) (side : Side) (tag : Tag) :
    s.assertSource k side tag = ((collecting k s).enterTripped k side tag, true) ∨
      ∃ trip : Trip, s.assertSource k side tag = ({ s with trip := trip }, false) ∧
        (s.trip.state ≠ .tripped → trip.state ≠ .tripped) := by
  rcases counts_or_collects k s with counts | ⟨needed, takes⟩
  · exact .inr ⟨_, assertSource_counts counts, id⟩
  · rw [assertSource_collects needed takes]
    by_cases full : (collecting k s).trip.asserted ||| sourceBit k = (collecting k s).trip.config.required
    · exact .inl (collect_completes full)
    · exact .inr ⟨_, collect_adds full, fun _ => nofun⟩

/-! ## DATA frames offered to the unit (R20) -/

theorem tripStep_some (source : e.trip = some k) : s.tripStep side tag f e = s.offerTrip k side tag f.payload := by
  unfold State.tripStep
  rw [source]

theorem offerTrip_asserts (asserts : s.trip.config.asserts k payload = true) :
    s.offerTrip k side tag payload = s.assertSource k side tag := if_pos asserts

theorem offerTrip_silent (silent : s.trip.config.asserts k payload = false) :
    s.offerTrip k side tag payload = (s, false) := if_neg (by simp [silent])

/-- A completing frame is dropped as *isolated*. -/
theorem dataUnder_completes (completes : s.tripStep side tag f e = (u, true)) :
    s.dataUnder side tag settled f e = u.countClassifier side fun c => { c with isolated := bump c.isolated } := by
  unfold State.dataUnder
  rw [completes]
  rfl

/-! ## The window (R136) -/

/-- The unit after a collection has lapsed. -/
def lapsed (t : Trip) : Trip :=
  { t with
    state := .watching
    asserted := 0
    deadline := none
    counters := { t.counters with lapses := bump t.counters.lapses } }

theorem lapseWindow_due {d : CTime} (state : s.trip.state = .collecting) (window : s.trip.deadline = some d)
    (past : reached s.now d = true) : s.lapseWindow = { s with trip := lapsed s.trip }.setFlag .tripLapsed := by
  have is_due : due s.now s.trip.deadline = true := by rw [window]; exact past
  exact if_pos ⟨state, is_due⟩

/-- Settles O35: by what an assertion does, and by the event of the frame or of the window. -/
theorem collectionsCompleteOrLapse : Obligations.CollectionsCompleteOrLapse := by
  unfold Obligations.CollectionsCompleteOrLapse
  refine ⟨fun c k payload => asserts_iff, fun k side tag s => ?_, ?_, ?_⟩
  · intro watching before counted
    refine ⟨fun counts => assertSource_counts counts, fun takes needed => ?_⟩
    have collects := assertSource_collects (side := side) (tag := tag) needed (takes.imp_left of_decide_eq_true)
    refine ⟨fun full => ?_, fun open_ => ?_⟩
    · rw [collects.trans (collect_completes (s := collecting k s) full)]
      obtain ⟨flag, queues, list, records, counters, banks, ports, agent, image, silent⟩ :=
        tripped_enterTripped (collecting k s) k side tag
      exact ⟨rfl, enterTripped_trip k side tag, flag, queues, list, records, counters, banks, ports, agent, image,
        silent⟩
    · exact collects.trans (collect_adds (s := collecting k s) open_)
  · intro side f reply tag i e k heard taken s takes quiet fits body gate wins is source heard_eq taken_eq
    have taken_won : taken = won false reply side tag i heard := taken_eq
    have event := exec_received takes fits
    rw [classify_data_won (s := s.heard side) body gate wins] at event
    change exec _ s = .next ((won false reply side tag i ((s.heard side).countClassifier side fun c =>
      { c with dataTaken := bump c.dataTaken })).dataUnder side tag _ f s.banks.active.entries[i]).settle at event
    rw [← is, ← heard_eq, ← taken_won] at event
    obtain ⟨tags, proxy, same⟩ := won_eq false reply side tag i heard
    rw [← taken_won, heard_eq] at same
    have trip : taken.trip = s.trip := by rw [same]; rfl
    have silent (unreported : s.Unreported) : taken.Unreported := by rw [same]; exact unreported
    have step : taken.tripStep side tag f e = taken.offerTrip k side tag f.payload := tripStep_some source
    refine ⟨fun asserts completes => ?_, fun offered offer => ?_⟩
    · rw [← trip] at asserts
      rcases assertSource_cases taken k side tag with entered | ⟨_, spared, -⟩
      · rw [entered]
        have tripped := tripped_enterTripped (collecting k taken) k side tag
        rw [dataUnder_completes (step.trans ((offerTrip_asserts asserts).trans entered))] at event
        refine ⟨_, event, settle_trip _, (State.grows_settle _).has tripped.flag, fun unreported => ?_⟩
        have reports := congrArg Events.reports (tripped.silent (silent unreported))
        exact State.settle_of_quiet ((State.quiet_congr (s := taken) reports).2 (silent unreported).1)
      · rw [spared] at completes
        cases completes
    · have offered_step : taken.tripStep side tag f e = (offered, false) := by
        rw [step]
        rcases offer with ⟨spared, eq⟩ | ⟨asserts, eq⟩
        · rw [eq]
          exact offerTrip_silent (trip ▸ spared)
        · exact (offerTrip_asserts (trip ▸ asserts)).trans eq
      obtain ⟨unit, is_offered, open_⟩ : ∃ unit : Trip, offered = { taken with trip := unit } ∧
          unit.state ≠ .tripped := by
        rcases offer with ⟨-, eq⟩ | ⟨-, eq⟩
        · exact ⟨taken.trip, eq, trip ▸ gate⟩
        · rcases assertSource_cases taken k side tag with entered | ⟨unit, spared, keeps⟩
          · rw [entered] at eq
            cases eq
          · rw [spared] at eq
            cases eq
            exact ⟨unit, rfl, keeps (trip ▸ gate)⟩
      rw [same] at is_offered
      have still : offered.Quiet := by rw [is_offered]; exact quiet
      refine ⟨fun drop => ?_, fun pass unfiltered hops room => ?_⟩
      · rw [event, dataUnder_drop offered_step drop]
        exact congrArg Host.Outcome.next (State.settle_of_quiet still)
      · have roomy : offered.Room side.far := by
          rw [is_offered]
          exact (room_congr (heard_state s side) rfl rfl).2 room
        have onward : { e.applyTo tag f with hop := f.hop - 1 } =
            { f with cls := e.setClass.getD f.cls, hop := f.hop - 1 } := by
          have kept : e.tagOf tag = tag := if_neg (by simp [pass])
          rw [applyTo_onward (query := false) (reply := reply) body, kept, body]
          rfl
        rw [dataUnder_onward offered_step (by simp [pass]), dataOnward_plain (by simp [pass, unfiltered])] at event
        rw [(forward_event event still (.inl (by rw [is_offered]; exact open_))).1 hops roomy, ← onward]
        rfl
  · intro d s running state window past
    have event : exec .windowDeadline s = .next ({ s with trip := lapsed s.trip }.setFlag .tripLapsed).settle := by
      rw [← lapseWindow_due state window past]
      exact congrArg Host.Outcome.next (event_running running)
    obtain ⟨t, next, steady, -, -, set, leaves⟩ := flagged_event event
    exact ⟨t, next, set, leaves, steady⟩

end Sys2Proof.Machine.TripLaws
end

section
/-! SET_CONFIG (R84, R156) and CLEAR_COUNTERS (R14, R159). A new AGE_LIMIT walks each queue from the back; told as a
whole, the frames past it leave or are marked, and STALE_DROP is set once for each that leaves (R83, R85). -/

namespace Sys2Proof.Machine.ConfigLaws

open DeliveryLaws ForwardLaws EgressLaws RemovalLaws SettingsLaws AgentLaws

variable {s d u : State} {m : Arrival} {seq : Byte} {x : Session} {side : Side} {c : FClass} {i : ParamId}
  {v : BitVec 16} {pre post : List QFrame}

/-! ## Commands of the owner -/

/-- A command of the owner whose rule leaves nothing to settle and room for its response is answered. -/
theorem owner_answered {cmd : Command} {args : Payload} {reply : Reply} (hears : s.HearsOwner m seq x)
    (fit : argsFit args = true) (run : cmd.run (s.delivered m) = (u, reply)) (quiet : u.Quiet)
    (room : u.Room m.side) :
    addressed m seq args cmd s = .next (u.answeredBy m ⟨seq, cmd.code, reply.status, reply.args⟩) := by
  obtain ⟨new, owned⟩ := HearsOwner.lets hears
  exact addressed_room hears.1 new (fun _ => owned) fit run quiet room

/-! ## CLEAR_COUNTERS (R14, R159) -/

/-- Clearing a set touches nothing but counters. -/
theorem clearSet_uncounted (s : State) (k : Fin 13) : (s.clearSet k.val).uncounted = s.uncounted := by
  fin_cases k <;> rfl

theorem clearAllSets_eq (s : State) : s.clearAllSets = s.uncounted := by
  cases s
  rfl

/-- What is no counter is read the same without them. -/
theorem quiet_uncounted : s.uncounted.Quiet ↔ s.Quiet := Iff.rfl

theorem room_uncounted : s.uncounted.Room side ↔ s.Room side :=
  room_congr (t := s.uncounted) (fun sd => by cases sd <;> rfl) rfl rfl

/-- A set cleared reads 0 throughout. -/
theorem counterSet_clearSet_same {k : Fin 13} {cs : List Counter} (set : s.counterSet (countByte k.val) = some cs) :
    (s.clearSet k.val).counterSet (countByte k.val) = some (List.replicate cs.length 0) := by
  have trip (t : TripCounters) : t.list.length = 9 := by simp [TripCounters.list]
  by_cases unit : k = 10
  · subst unit
    cases set
    exact congrArg some (congrArg (List.replicate · 0) (trip s.trip.counters)).symm
  · fin_cases k <;> cases set <;> trivial

/-- Every other set stays as it is. -/
theorem counterSet_clearSet_other {j k : Fin 13} (other : j ≠ k) :
    (s.clearSet k.val).counterSet (countByte j.val) = s.counterSet (countByte j.val) := by
  fin_cases k <;> fin_cases j <;> trivial

theorem exec_clearCounters_set (hears : s.HearsOwner m seq x) (quiet : s.Quiet) (room : s.Room m.side) (k : Fin 13) :
    exec (.clearCounters m seq [countByte k.val]) s =
      .next (((s.delivered m).clearSet k.val).answeredBy m ⟨seq, 0x06, .ok, []⟩) := by
  have code : (countByte k.val).toNat = k.val := ReadLaws.countByte_toNat (by omega)
  have single : countByte k.val ≠ 0xFF := fun all => by
    have := congrArg BitVec.toNat all
    rw [code] at this
    exact absurd this (by decide +revert)
  have run : (clearCountersCommand [countByte k.val]).run (s.delivered m) =
      ((s.delivered m).clearSet k.val, okReply []) := by
    refine (if_neg single).trans ((if_pos (by omega)).trans ?_)
    rw [code]
  have same := clearSet_uncounted (s.delivered m) k
  refine owner_answered (args := [countByte k.val]) hears rfl run ?_ ?_
  · rw [← quiet_uncounted, same, quiet_uncounted]
    exact delivered_quiet quiet
  · rw [← room_uncounted, same, room_uncounted]
    exact delivered_room room

theorem exec_clearCounters_all (hears : s.HearsOwner m seq x) (quiet : s.Quiet) (room : s.Room m.side) :
    exec (.clearCounters m seq [0xFF]) s =
      .next ((s.delivered m).uncounted.answeredBy m ⟨seq, 0x06, .ok, []⟩) := by
  have run : (clearCountersCommand [0xFF]).run (s.delivered m) = ((s.delivered m).uncounted, okReply []) := by
    simp only [clearCountersCommand, ownerCommand, if_true, clearAllSets_eq]
  exact owner_answered (args := [0xFF]) hears rfl run (quiet_uncounted.2 (delivered_quiet quiet))
    (room_uncounted.2 (delivered_room room))

/-! ## A new AGE_LIMIT (R83, R84) -/

/-- A queue left with frames `q`, `n` of them having gone *stale*, each with its flag (R85). -/
def staleLeft (side : Side) (q : List QFrame) (n : Nat) (s : State) : State :=
  { s with
    queues :=
      { frames := s.queues.frames.set side q
        counters := s.queues.counters.modify side fun c => { c with stale := satAdd c.stale n } }
    events := (Events.setFlag s.agent.params s.now .staleDrop)^[n] s.events }

theorem staleLeft_frames (s : State) (side : Side) (q : List QFrame) (n : Nat) :
    (staleLeft side q n s).queues.frames.get side = q := PerSide.get_set _ _ _

/-- First some frames leave, then others. -/
theorem staleLeft_staleLeft (s : State) (side : Side) (q q' : List QFrame) (n n' : Nat) :
    staleLeft side q' n' (staleLeft side q n s) = staleLeft side q' (n' + n) s := by
  unfold staleLeft
  dsimp only
  rw [PerSide.modify_modify, Function.iterate_add_apply]
  simp only [satAdd_satAdd, Nat.add_comm n n']
  cases side <;> rfl

/-- No frame leaves. -/
theorem staleLeft_zero (s : State) (side : Side) (q : List QFrame) :
    staleLeft side q 0 s = s.onQueue side fun _ => q := by
  unfold staleLeft
  simp only [satAdd_zero, Function.iterate_zero_apply, PerSide.modify_id]
  rfl

/-- What a walk for class `c` leaves of some frames: those past the limit leave, but for the one on the line, which is
marked (R83). -/
def walked (p : Params) (now : CTime) (c : FClass) (q : List QFrame) : List QFrame :=
  (q.filter fun y => !(y.overAge p now c && !y.onLine)).map fun y =>
    if y.overAge p now c && y.mark == .none then { y with mark := .stale } else y

/-- The frames that leave. -/
def leaving (p : Params) (now : CTime) (c : FClass) (q : List QFrame) : Nat :=
  q.countP fun y => y.overAge p now c && !y.onLine

/-- One place of the walk. -/
def lookAt (side : Side) (c : FClass) (n : Nat) (s : State) : State :=
  match (s.queues.frames.get side)[n]? with
  | some x => if x.overAge s.agent.params s.now c then s.expire side n else s
  | none => s

theorem expireOverAge_succ (s : State) (side : Side) (c : FClass) (n : Nat) :
    s.expireOverAge side c (n + 1) = (lookAt side c n s).expireOverAge side c n := rfl

theorem lookAt_eq {y : QFrame} (split : s.queues.frames.get side = pre ++ y :: post) :
    lookAt side c pre.length s =
      staleLeft side (pre ++ (walked s.agent.params s.now c [y] ++ post)) (leaving s.agent.params s.now c [y]) s := by
  have found : (s.queues.frames.get side)[pre.length]? = some y := by simp [split]
  have unchanged : s = s.onQueue side fun _ => pre ++ y :: post := by
    rw [← split, onQueue_congr (g := fun q => q) rfl]
    unfold State.onQueue
    rw [PerSide.modify_id]
  unfold lookAt
  rw [found]
  dsimp only
  cases aged : y.overAge s.agent.params s.now c with
  | false =>
    rw [if_neg (by decide)]
    simpa [walked, leaving, aged, staleLeft_zero] using unchanged
  | true =>
    rw [if_pos rfl]
    cases line : y.onLine with
    | false =>
      have erased : (s.queues.frames.get side).eraseIdx pre.length = pre ++ post := by
        rw [split, List.eraseIdx_append_of_length_le (Nat.le_refl _), Nat.sub_self]
        rfl
      have left : walked s.agent.params s.now c [y] = [] := by simp [walked, aged, line]
      have one : leaving s.agent.params s.now c [y] = 1 := by simp [leaving, aged, line]
      rw [expire_waiting found line, onQueue_congr (g := fun _ => pre ++ post) erased, left, one]
      rfl
    | true =>
      have kept : walked s.agent.params s.now c [y] =
          [{ y with mark := if y.mark = .none then .stale else y.mark }] := by
        unfold walked
        rw [List.filter_cons_of_pos (by simp [line]), List.filter_nil, List.map_singleton, aged]
        by_cases mark : y.mark = .none <;> simp [mark]
      have zero : leaving s.agent.params s.now c [y] = 0 := by simp [leaving, line]
      rw [expire_onLine found line, kept, zero, staleLeft_zero]
      refine onQueue_congr ?_
      rw [split]
      simp

/-- The walk over the first frames of a queue (R83, R84). -/
theorem expireOverAge_eq (split : s.queues.frames.get side = pre ++ post) :
    s.expireOverAge side c pre.length =
      staleLeft side (walked s.agent.params s.now c pre ++ post) (leaving s.agent.params s.now c pre) s := by
  induction pre using List.reverseRecOn generalizing s post with
  | nil =>
    change s = _
    have unchanged : s.onQueue side (fun _ => post) = s.onQueue side fun q => q := onQueue_congr split.symm
    rw [walked, leaving, List.countP_nil, staleLeft_zero]
    refine Eq.trans ?_ unchanged.symm
    unfold State.onQueue
    rw [PerSide.modify_id]
  | append_singleton pre y ih =>
    have split' : s.queues.frames.get side = pre ++ y :: post := by rw [split]; simp
    rw [List.length_append, List.length_singleton, expireOverAge_succ, lookAt_eq split',
      ih (staleLeft_frames _ _ _ _), staleLeft_staleLeft]
    unfold walked leaving
    rw [List.filter_append, List.map_append, List.countP_append, List.append_assoc]
    rfl

end Sys2Proof.Machine.ConfigLaws
end

section
/-! SET_CONFIG as a whole (R84, R156): the parameter set, and the queues that a new AGE_LIMIT re-reads. -/

namespace Sys2Proof.Machine.ConfigLaws

open DeliveryLaws ForwardLaws EgressLaws SettingsLaws AgentLaws ReportLaws

variable {s d u : State} {m : Arrival} {seq : Byte} {x : Session} {side : Side} {c : FClass} {i : ParamId}
  {v : BitVec 16} {p : Params} {now : CTime} {y : QFrame}

/-! ## A queue under a new limit (R84) -/

/-- The frame is of class `c` and its age has reached the limit `v`, which is not 0. -/
def pastLimit (v : BitVec 16) (now : CTime) (c : FClass) (y : QFrame) : Bool :=
  y.frame.cls == c && v != 0 && decide (v.toNat ≤ (now - y.queueTime).toNat)

/-- The frame with its age deadline read again under the limit `v` of class `c`. -/
def underLimit (v : BitVec 16) (c : FClass) (y : QFrame) : QFrame :=
  if y.frame.cls = c then
    { y with ageDeadline := if v = 0 then none else some (y.queueTime + v.setWidth 32) }
  else y

/-- A queue under the limit `v` of class `c`. -/
def queueUnderLimit (v : BitVec 16) (now : CTime) (c : FClass) (q : List QFrame) : List QFrame :=
  ((q.filter fun y => !(pastLimit v now c y && !y.onLine)).map (underLimit v c)).map fun y =>
    if pastLimit v now c y && y.mark == .none then { y with mark := .stale } else y

/-- The frames that leave it. -/
def leavingUnderLimit (v : BitVec 16) (now : CTime) (c : FClass) (q : List QFrame) : Nat :=
  q.countP fun y => pastLimit v now c y && !y.onLine

theorem overAge_eq (limit : p.ageLimit c = v) (now : CTime) (y : QFrame) :
    y.overAge p now c = pastLimit v now c y := by
  have age : v.setWidth 32 ≤ now - y.queueTime ↔ v.toNat ≤ (now - y.queueTime).toNat := by
    rw [BitVec.le_def, BitVec.toNat_setWidth, Nat.mod_eq_of_lt (Nat.lt_trans v.isLt (by decide))]
  have reached : decide (v.setWidth 32 ≤ now - y.queueTime) = decide (v.toNat ≤ (now - y.queueTime).toNat) :=
    decide_eq_decide.2 age
  have limited : decide (v ≠ 0) = (v != 0) := by rw [Bool.eq_iff_iff, decide_eq_true_iff, bne_iff_ne]
  unfold QFrame.overAge pastLimit
  rw [limit, reached, limited]
  rfl

theorem reread_eq (limit : p.ageLimit c = v) : QFrame.reread p c = underLimit v c := by
  funext y
  unfold QFrame.reread underLimit Params.ageDeadline
  rw [limit]

/-- Re-reading the deadline moves no frame to or from the limit. -/
theorem pastLimit_underLimit (y : QFrame) : pastLimit v now c (underLimit v c y) = pastLimit v now c y := by
  unfold underLimit
  split <;> rfl

theorem onLine_underLimit (y : QFrame) : (underLimit v c y).onLine = y.onLine := by
  unfold underLimit
  split <;> rfl

theorem walked_underLimit (limit : p.ageLimit c = v) (q : List QFrame) :
    walked p now c (q.map (underLimit v c)) = queueUnderLimit v now c q := by
  unfold walked queueUnderLimit
  simp only [overAge_eq limit, List.filter_map, Function.comp_def, pastLimit_underLimit, onLine_underLimit]

theorem leaving_underLimit (limit : p.ageLimit c = v) (q : List QFrame) :
    leaving p now c (q.map (underLimit v c)) = leavingUnderLimit v now c q := by
  unfold leaving leavingUnderLimit
  simp only [overAge_eq limit, List.countP_map, Function.comp_def, pastLimit_underLimit, onLine_underLimit]

/-- One queue re-read (R84). -/
theorem rereadAge_eq (limit : s.agent.params.ageLimit c = v) :
    s.rereadAge side c =
      staleLeft side (queueUnderLimit v s.now c (s.queues.frames.get side))
        (leavingUnderLimit v s.now c (s.queues.frames.get side)) s := by
  have mapped : (s.onQueue side (·.map (underLimit v c))).queues.frames.get side =
      (s.queues.frames.get side).map (underLimit v c) ++ [] := by
    rw [List.append_nil]
    exact PerSide.get_modify _ _ _
  have walk := expireOverAge_eq (c := c) mapped
  unfold State.rereadAge
  rw [reread_eq limit]
  dsimp only
  rw [mapped, List.append_nil, walk, List.append_nil]
  change staleLeft side (walked s.agent.params s.now c _) (leaving s.agent.params s.now c _) _ = _
  rw [walked_underLimit limit, leaving_underLimit limit]
  cases side <;> rfl

/-! ## The parameter set (R156) -/

/-- A change of AGE_LIMIT also re-reads both queues (R84). -/
theorem configure_ageLimit (s : State) (c : FClass) (v : BitVec 16) :
    s.configure (.ageLimit c) v =
      { s with
        agent := { s.agent with params := s.agent.params.withValue (.ageLimit c) v }
        queues :=
          { frames := ⟨queueUnderLimit v s.now c s.queues.frames.a, queueUnderLimit v s.now c s.queues.frames.b⟩
            counters :=
              ⟨{ s.queues.counters.a with
                  stale := satAdd s.queues.counters.a.stale (leavingUnderLimit v s.now c s.queues.frames.a) },
                { s.queues.counters.b with
                  stale := satAdd s.queues.counters.b.stale (leavingUnderLimit v s.now c s.queues.frames.b) }⟩ }
        events :=
          (Events.setFlag (s.agent.params.withValue (.ageLimit c) v) s.now .staleDrop)^[leavingUnderLimit v s.now c
            s.queues.frames.a + leavingUnderLimit v s.now c s.queues.frames.b] s.events } := by
  have limit : (s.agent.params.withValue (.ageLimit c) v).ageLimit c = v := by
    simp [Params.withValue, Params.ageLimit]
  have first := rereadAge_eq (s := s.withParams (s.agent.params.withValue (.ageLimit c) v)) (side := .a) limit
  have second := rereadAge_eq (s := (s.withParams (s.agent.params.withValue (.ageLimit c) v)).rereadAge .a c)
    (side := .b) (c := c) (v := v) (by rw [first]; exact limit)
  unfold State.configure
  dsimp only
  rw [second, first, Nat.add_comm, Function.iterate_add_apply]
  rfl

/-- Every other parameter is set and that is all. -/
theorem configure_other (other : ∀ c, i ≠ .ageLimit c) (s : State) (v : BitVec 16) :
    s.configure i v = s.withParams (s.agent.params.withValue i v) := by
  cases i with
  | ageLimit c => exact absurd rfl (other c)
  | _ => rfl

theorem configure_steady (s : State) (i : ParamId) (v : BitVec 16) :
    (s.configure i v).steady = { s.steady with params := s.agent.params.withValue i v } := by
  by_cases other : ∀ c, i ≠ .ageLimit c
  · rw [configure_other other]
    rfl
  · obtain ⟨c, rfl⟩ := not_forall_not.1 other
    rw [configure_ageLimit]
    rfl

/-! ## STALE_DROP, once or more (R85) -/

/-- A flag set some times is set. -/
theorem has_iterate {f : Flag} (ev : Events) {n : Nat} (some_ : 0 < n) :
    ((Events.setFlag p now f)^[n] ev).has f = true := by
  obtain ⟨n, rfl⟩ := Nat.exists_eq_add_one_of_ne_zero (Nat.ne_of_gt some_)
  rw [Function.iterate_succ_apply']
  exact Events.has_setFlag p now _ (.inr rfl)

/-- Where no report can be made, a flag set some times is as one set once. -/
theorem iterate_unreported {f : Flag} (nobody : p.reportStation = stationNone) (ev : Events) (n : Nat) :
    (Events.setFlag p now f)^[n] ev = (if 0 < n then [f] else []).foldl Events.mark ev := by
  induction n with
  | zero => rfl
  | succ n ih =>
    rw [Function.iterate_succ_apply', ih, Events.setFlag_unreported _ _ _ _ nobody, if_pos (Nat.succ_pos n)]
    split
    · exact mark_has (by rw [List.foldl_cons, List.foldl_nil, Events.has_mark]; simp)
    · rfl

/-! ## The command (R156) -/

theorem refusesConfig_false (session : s.agent.session = some x) (high : v.toNat ≤ i.range.2)
    (fits : ∀ side, i = .ceiling side → (s.queues.frames.get side).length ≤ v.toNat)
    (foreign : i = .ownStation → x.owner.toNat ≠ v.toNat) : s.refusesConfig i v = false := by
  cases i with
  | ceiling side => exact decide_eq_false (Nat.not_lt.2 (fits side rfl))
  | ownStation =>
    unfold State.refusesConfig
    rw [session]
    refine beq_eq_false_iff_ne.2 fun same => foreign rfl ?_
    have below : v.toNat < 2 ^ 12 := Nat.lt_of_le_of_lt high (by decide)
    rw [same, BitVec.toNat_setWidth, Nat.mod_eq_of_lt below]
  | _ => rfl

theorem setConfig_run {item vh vl : Byte} (named : ParamId.ofCode item = some i) (admits : i.admits (vh ++ vl) = true)
    (lets : s.refusesConfig i (vh ++ vl) = false) :
    (setConfigCommand [item, vh, vl]).run s = (s.configure i (vh ++ vl), okReply [item, vh, vl]) := by
  simp only [setConfigCommand, ownerCommand, named, admits, lets]
  rfl

/-- What the owner's command leaves of the steady part, its rule's outcome given. -/
theorem finish_owner_steady {r : Response} (session : u.agent.session = some x) (own : x.owner = m.source)
    (first : Bool) :
    ((u.finish first m r).settle).steady = { u.steady with session := some (x.answered u.now m.side r) } := by
  rw [State.steady_settle, finish_steady, keepResponse_owner _ session own]
  rfl

end Sys2Proof.Machine.ConfigLaws
end

section
/-! SET_CONFIG (R156), CLEAR_EVENTS and ENABLE_EVENTS (R176, R177) as the owner's commands. -/

namespace Sys2Proof.Machine.ConfigLaws

open DeliveryLaws ForwardLaws SettingsLaws AgentLaws ReportLaws

variable {s d u : State} {m : Arrival} {seq item vh vl : Byte} {x : Session} {c : FClass} {i : ParamId} {v : BitVec 16}

/-! ## SET_CONFIG, its event (R156) -/

theorem exec_setConfig (hears : s.HearsOwner m seq x) (named : ParamId.ofCode item = some i)
    (admits : i.admits (vh ++ vl) = true) (lets : s.refusesConfig i (vh ++ vl) = false) :
    ∃ first, exec (.setConfig m seq [item, vh, vl]) s =
      .next ((((s.delivered m).configure i (vh ++ vl)).finish first m ⟨seq, 0x14, .ok, [item, vh, vl]⟩).settle) := by
  refine ⟨(setConfigCommand [item, vh, vl]).settleFirst,
    (addressed_owner (args := [item, vh, vl]) (c := setConfigCommand [item, vh, vl]) hears rfl).trans ?_⟩
  rw [setConfig_run (s := s.delivered m) named admits lets]
  rfl

/-- A parameter that is no AGE_LIMIT, with room for the response (R156). -/
theorem finish_configure_other (other : ∀ c, i ≠ .ageLimit c) (quiet : s.Quiet)
    (room : (s.withParams (s.agent.params.withValue i v)).Room m.side) (first : Bool) (r : Response) :
    State.Leaves ((s.withParams (s.agent.params.withValue i v)).queueResponse m r)
      ((s.configure i v).finish first m r).settle [] := by
  rw [configure_other other, finish_room (s := s.withParams (s.agent.params.withValue i v)) quiet room]
  exact answeredBy_rest _ m r

/-- A frame that goes stale sets STALE_DROP (R85). -/
theorem finish_configure_stale
    (gone : 0 < leavingUnderLimit v s.now c s.queues.frames.a + leavingUnderLimit v s.now c s.queues.frames.b)
    (first : Bool) (r : Response) :
    ((s.configure (.ageLimit c) v).finish first m r).settle.events.has .staleDrop = true := by
  refine finish_has first r ?_
  rw [configure_ageLimit]
  exact has_iterate _ gone

/-- A state whose queues a new AGE_LIMIT has re-read, its flags aside (R84). -/
def reread (c : FClass) (v : BitVec 16) (s : State) : State :=
  { s with
    agent := { s.agent with params := s.agent.params.withValue (.ageLimit c) v }
    queues :=
      { frames := ⟨queueUnderLimit v s.now c s.queues.frames.a, queueUnderLimit v s.now c s.queues.frames.b⟩
        counters :=
          ⟨{ s.queues.counters.a with
              stale := satAdd s.queues.counters.a.stale (leavingUnderLimit v s.now c s.queues.frames.a) },
            { s.queues.counters.b with
              stale := satAdd s.queues.counters.b.stale (leavingUnderLimit v s.now c s.queues.frames.b) }⟩ } }

/-- Where no report can be made, a new AGE_LIMIT re-reads the queues and sets STALE_DROP at most (R84, R85). -/
theorem configure_ageLimit_unreported (unreported : s.Unreported) :
    s.configure (.ageLimit c) v =
      { reread c v s with
        events :=
          (if 0 < leavingUnderLimit v s.now c s.queues.frames.a + leavingUnderLimit v s.now c s.queues.frames.b then
            [Flag.staleDrop] else []).foldl Events.mark s.events } := by
  rw [configure_ageLimit, iterate_unreported (p := s.agent.params.withValue (.ageLimit c) v) unreported.2]
  rfl

theorem finish_configure_ageLimit (unreported : s.Unreported) (room : (reread c v s).Room m.side) (first : Bool)
    (r : Response) :
    State.Leaves ((reread c v s).queueResponse m r) ((s.configure (.ageLimit c) v).finish first m r).settle
      (if 0 < leavingUnderLimit v s.now c s.queues.frames.a + leavingUnderLimit v s.now c s.queues.frames.b then
        [.staleDrop] else []) := by
  have quiet : (s.configure (.ageLimit c) v).Quiet := by
    rw [configure_ageLimit_unreported unreported]
    refine (State.quiet_congr ?_).2 unreported.1
    split <;> rfl
  have roomy : (s.configure (.ageLimit c) v).Room m.side := by
    rw [configure_ageLimit_unreported unreported]
    exact room
  rw [finish_room quiet roomy]
  refine (answeredBy_rest _ m r).trans ?_
  rw [configure_ageLimit_unreported unreported]
  rfl

/-- SET_CONFIG leaves of the steady part what its parameter and its answer change (R152, R156). -/
theorem finish_configure_steady (session : s.agent.session = some x) (own : x.owner = m.source) (first : Bool)
    (r : Response) :
    ((s.configure i v).finish first m r).settle.steady =
      { s.steady with
        params := s.agent.params.withValue i v
        session := some (x.answered s.now m.side r) } := by
  have part := configure_steady s i v
  have clock : (s.configure i v).now = s.now := congrArg Steady.now part
  have holder : (s.configure i v).agent.session = some x := (congrArg Steady.session part).trans session
  rw [finish_owner_steady holder own, part, clock]

/-! ## The flags of one group (R176, R177) -/

variable {g : Group} {h l : Byte}

theorem groupArgs_eq (defined : (h ++ l) &&& ~~~(Events.allFlags.get g) = 0) :
    groupArgs [g.code, h, l] = some (g, h ++ l) := by
  have code : Group.ofCode g.code = some g := by cases g <;> rfl
  have set : flagSet g h l = some (h ++ l) := if_pos defined
  unfold groupArgs
  dsimp only
  rw [code]
  dsimp only
  rw [set]
  rfl

/-- The readout of a group, its flags and enables as they stand (Table 12-11). -/
def groupShown (p : Params) (g : Group) (flags enables : BitVec 16) : Payload :=
  [g.code] ++ be16 flags ++ be16 enables ++ [if flags &&& enables = 0 then 0 else 1, countByte (p.levels.get g)]

theorem groupReadout_eq (s : State) (g : Group) :
    s.groupReadout g = groupShown s.agent.params g (s.events.flags.get g) (s.events.enables.get g) := by
  unfold State.groupReadout groupShown
  rw [ReadLaws.boolByte_raised]

theorem clearEvents_run (defined : (h ++ l) &&& ~~~(Events.allFlags.get g) = 0) (s : State) :
    (clearEventsCommand [g.code, h, l]).run s =
      (s.clearFlags g (h ++ l),
        okReply (groupShown s.agent.params g (s.events.flags.get g &&& ~~~(h ++ l)) (s.events.enables.get g))) := by
  have run : (clearEventsCommand [g.code, h, l]).run s =
      (s.clearFlags g (h ++ l), okReply ((s.clearFlags g (h ++ l)).groupReadout g)) := by
    simp only [clearEventsCommand, ownerCommand, groupArgs_eq defined]
  rw [run, groupReadout_eq]
  unfold State.clearFlags
  dsimp only
  rw [PerGroup.get_set]

theorem enableEvents_run (defined : (h ++ l) &&& ~~~(Events.allFlags.get g) = 0) (s : State) :
    (enableEventsCommand [g.code, h, l]).run s =
      (s.enableFlags g (h ++ l), okReply ((s.enableFlags g (h ++ l)).groupReadout g)) := by
  simp only [enableEventsCommand, ownerCommand, groupArgs_eq defined]

theorem exec_clearEvents (hears : s.HearsOwner m seq x) (defined : (h ++ l) &&& ~~~(Events.allFlags.get g) = 0)
    (quiet : s.Quiet) (room : s.Room m.side) :
    exec (.clearEvents m seq [g.code, h, l]) s =
      .next (((s.delivered m).clearFlags g (h ++ l)).answeredBy m
        ⟨seq, 0x19, .ok,
          groupShown s.agent.params g (s.events.flags.get g &&& ~~~(h ++ l)) (s.events.enables.get g)⟩) :=
  owner_answered (args := [g.code, h, l]) hears rfl (clearEvents_run defined _) (delivered_quiet (s := s) quiet)
    (delivered_room (s := s) room)

/-! ## The enables of a group replaced (R177) -/

variable {p : Params} {now : CTime} {ev : Events} {set : BitVec 16}

/-- The enables of a group replaced, and no more. -/
def enabling (g : Group) (set : BitVec 16) (ev : Events) : Events := { ev with enables := ev.enables.set g set }

/-- New enables that raise a group of which a station is told (R174, R175). -/
structure Raises (p : Params) (ev : Events) (g : Group) (set : BitVec 16) : Prop where
  before  : ev.raised g = false
  after   : (enabling g set ev).raised g = true
  station : p.reportStation ≠ stationNone

/-- Enables that raise no group, or of which no station is told, replace the old ones and no more. -/
theorem setEnables_calm (calm : ¬Raises p ev g set) : ev.setEnables p now g set = enabling g set ev := by
  unfold Events.setEnables
  dsimp only
  by_cases rise : (!ev.raised g && (enabling g set ev).raised g) = true
  · obtain ⟨before, after⟩ := Bool.and_eq_true_iff.1 rise
    have nobody : p.reportStation = stationNone := by
      by_contra station
      exact calm ⟨by simpa using before, after, station⟩
    have unreported : (enabling g set ev).report p now g = (enabling g set ev, false) := if_pos nobody
    rw [enabling] at rise unreported
    rw [if_pos rise, unreported]
    rfl
  · exact if_neg rise

/-- Below 8 reports the one that the enables raise is placed (R178). -/
theorem setEnables_raises (raises : Raises p ev g set) (few : ev.reports.length < 8) :
    ev.setEnables p now g set =
      { enabling g set ev with
        reports := insertReport (made g (p.levels.get g) now ev) ev.reports
        nextSeq := ev.nextSeq + 1
        counters := { ev.counters with created := bump ev.counters.created } } := by
  have rise : (!ev.raised g && (enabling g set ev).raised g) = true := by rw [raises.before]; exact raises.after
  rw [enabling] at rise
  unfold Events.setEnables Events.report
  dsimp only
  rw [if_pos rise, if_neg raises.station, place_room (ev := { ev with enables := ev.enables.set g set }) _ few]
  rfl

theorem setEnables_enables : (ev.setEnables p now g set).enables.get g = set := by
  have kept := Events.report_keeps p now (enabling g set ev) g
  have enabled : ((enabling g set ev).report p now g).1.enables.get g = set := by
    rw [kept.2]
    exact PerGroup.get_set _ _ _
  unfold Events.setEnables
  dsimp only
  split
  · split
    · next eq => rw [enabling, eq] at enabled; exact enabled
    · next eq =>
      rw [enabling, eq] at enabled
      unfold Events.afterDiscard
      rw [(Events.raise_keeps p now _ _).2]
      exact enabled
  · exact PerGroup.get_set _ _ _

/-- The event unit with its new enables and the report they raise, its snapshot fixed (Table 10-2). -/
theorem fixSnapshots_raises (raises : Raises p ev g set) (few : ev.reports.length < 8)
    (fixed : ∀ r ∈ ev.reports, r.making = false) :
    (ev.setEnables p now g set).fixSnapshots =
      { enabling g set ev with
        reports := insertReport { made g (p.levels.get g) now ev with making := false } ev.reports
        nextSeq := ev.nextSeq + 1
        counters := { ev.counters with created := bump ev.counters.created } } := by
  have listed := setEnables_raises (now := now) raises few
  have one := fixSnapshots_insert (congrArg Events.reports listed) rfl fixed
  rw [listed] at one ⊢
  exact one

/-! ## ENABLE_EVENTS, its rule (R177) -/

theorem enableFlags_enables : (s.enableFlags g set).events.enables.get g = set := by
  obtain ⟨q, ev, grown, -, kept⟩ := State.grows_enableFlags (s := s) g set
  have same : (s.enableFlags g set).events.enables = ev.enables := by rw [grown]
  rw [same, kept]
  exact setEnables_enables

theorem enableFlags_params : (s.enableFlags g set).agent.params = s.agent.params :=
  congrArg Steady.params (State.grows_enableFlags (s := s) g set).steady

theorem enableFlags_steady : (s.enableFlags g set).steady = s.steady := (State.grows_enableFlags g set).steady

theorem enableFlags_calm (calm : ¬Raises s.agent.params s.events g set) (quiet : s.Quiet) :
    s.enableFlags g set = { s with events := enabling g set s.events } := by
  unfold State.enableFlags
  rw [setEnables_calm calm]
  exact State.settle_of_quiet (s := { s with events := enabling g set s.events }) quiet

/-- The report that new enables raise, when its event ends (R175, R180). -/
def raisedReport (p : Params) (now : CTime) (g : Group) (ev : Events) : Report where
  seq := ev.nextSeq
  group := g
  level := p.levels.get g
  snapshot := ev.flags.get g
  time := now
  outstanding := ev.reports.isEmpty
  sends := if ev.reports.isEmpty then 1 else 0
  retry := if ev.reports.isEmpty then some (now + 250) else none
  making := false

/-- The event unit with that report, sent if it is outstanding at once. -/
def raisedEvents (p : Params) (now : CTime) (g : Group) (set : BitVec 16) (ev : Events) : Events :=
  { enabling g set ev with
    reports := insertReport (raisedReport p now g ev) ev.reports
    nextSeq := ev.nextSeq + 1
    counters :=
      { ev.counters with
        created := bump ev.counters.created
        sends := if ev.reports.isEmpty then bump ev.counters.sends else ev.counters.sends } }

/-- A state with new enables that raise a group. -/
def raisedBy (g : Group) (set : BitVec 16) (s : State) : State :=
  { s with events := raisedEvents s.agent.params s.now g set s.events }

/-- Behind other reports the new one waits (R178). -/
theorem enableFlags_waits (raises : Raises s.agent.params s.events g set) (quiet : s.Quiet)
    (behind : s.events.reports ≠ []) (few : s.events.reports.length < 8) :
    s.enableFlags g set = raisedBy g set s ∧ (raisedBy g set s).Quiet := by
  have waiting : s.events.reports.isEmpty = false := by simpa using behind
  have report : { made g (s.agent.params.levels.get g) s.now s.events with making := false } =
      raisedReport s.agent.params s.now g s.events := by
    simp [made, raisedReport, waiting]
  have fixed := fixSnapshots_raises (now := s.now) raises few fun r hr => (quiet r hr).1
  rw [report] at fixed
  have settled : State.fixSnapshots { s with events := s.events.setEnables s.agent.params s.now g set } =
      raisedBy g set s := by
    refine (congrArg (fun ev => { s with events := ev }) fixed).trans ?_
    unfold raisedBy raisedEvents
    rw [waiting]
    rfl
  have still : (raisedBy g set s).Quiet := by
    intro r hr
    rcases List.mem_cons.1 ((insertReport_perm _ _).mem_iff.1 hr) with rfl | old
    · exact ⟨rfl, fun out => absurd (out.symm.trans waiting) (by decide)⟩
    · exact quiet r old
  refine ⟨?_, still⟩
  unfold State.enableFlags
  rw [settle_fixed (by rw [settled]; exact still), settled]

/-- Alone in the list the new report is sent at once (R180). -/
theorem enableFlags_sends (raises : Raises s.agent.params s.events g set) (empty : s.events.reports = [])
    (room : s.Room s.agent.params.reportSide) :
    s.enableFlags g set =
        (raisedBy g set s).enqueue s.agent.params.reportSide
          ((raisedReport s.agent.params s.now g s.events).sent s.agent.params 1) ∧
      (raisedBy g set s).Quiet := by
  have fixed := fixSnapshots_raises (now := s.now) raises (by simp [empty]) (by simp [empty])
  have one : (s.events.setEnables s.agent.params s.now g set).fixSnapshots.reports =
      [{ made g (s.agent.params.levels.get g) s.now s.events with making := false }] := by
    rw [fixed, empty]
    rfl
  have settled : State.fixSnapshots { s with events := s.events.setEnables s.agent.params s.now g set } =
      { s with events := _ } := congrArg (fun ev => { s with events := ev }) fixed
  have sent := settle_first (s := { s with events := s.events.setEnables s.agent.params s.now g set }) one
    (congrArg List.isEmpty empty) rfl rfl rfl raises.station room
  refine ⟨?_, ?_⟩
  · unfold State.enableFlags
    rw [sent, settled]
    simp only [sentFirst, raisedBy, raisedEvents, raisedReport, made, empty]
    rfl
  · have list : (raisedBy g set s).events.reports = [raisedReport s.agent.params s.now g s.events] := by
      unfold raisedBy raisedEvents
      rw [empty]
      rfl
    have retry : (raisedReport s.agent.params s.now g s.events).retry.isSome = true := by
      unfold raisedReport
      rw [empty]
      rfl
    intro r hr
    rw [list, List.mem_singleton] at hr
    subst hr
    exact ⟨rfl, fun _ => retry⟩

/-! ## The first send refused for want of a slot (R77, R180) -/

/-- Below 8 reports a flag set sets no other. -/
theorem setFlag_flags {f : Flag} (few : ev.reports.length < 8) : (ev.setFlag p now f).flags = (ev.mark f).flags := by
  by_cases calm : ev.raised f.group = true ∨ (ev.mark f).raised f.group = false ∨ p.reportStation = 4095
  · rw [setFlag_marks calm]
  · obtain ⟨before, after, station⟩ : ev.raised f.group ≠ true ∧ (ev.mark f).raised f.group ≠ false ∧
        p.reportStation ≠ 4095 := by simpa only [not_or] using calm
    rw [setFlag_room (by simpa using before) (by simpa using after) station few]

/-- A send refused by a full pool sets POOL_FULL (R77). -/
theorem sendReport_poolFull {r : Report} (accepts : (s.ports.get s.agent.params.reportSide).state.accepts = true)
    (full : ¬s.Room s.agent.params.reportSide)
    (line : ∀ y ∈ s.queues.frames.get s.agent.params.reportSide, y.frame.cls < s.agent.params.mgmtClass →
      y.onLine = true)
    (pool : 48 ≤ s.queues.frames.a.length + s.queues.frames.b.length) (few : s.events.reports.length < 8) :
    (s.sendReport r).events.flags = (s.events.mark .poolFull).flags := by
  have none_ : displaceable (r.frame s.agent.params).cls (s.queues.frames.get s.agent.params.reportSide) = none :=
    QueueLaws.displaceable_none.2 line
  have crowded : s.roomToward s.agent.params.reportSide = false :=
    QueueLaws.roomToward_false.2 fun room => full ⟨accepts, room⟩
  have refused := QueueLaws.admit_full ⟨accepts, .inr rfl⟩ crowded none_
  rw [if_pos (QueueLaws.free_eq_zero.2 pool)] at refused
  unfold State.sendReport
  rw [refused]
  exact setFlag_flags few

/-- The one report of a list, due, is sent when its event settles. -/
theorem settle_due {r : Report} (list : s.fixSnapshots.events.reports = [r]) (out : r.outstanding = true)
    (due : r.retry = none) (station : s.agent.params.reportStation ≠ stationNone) :
    s.settle = (s.fixSnapshots.sendReport r).fixSnapshots := by
  have sent : s.fixSnapshots.sendDue = s.fixSnapshots.sendReport r := by
    unfold State.sendDue outstandingReport
    rw [list, List.find?_cons_of_pos (by exact out)]
    simp only [due, Option.isSome_none, Bool.false_eq_true, if_false]
    exact if_neg station
  unfold State.settle
  rw [sent]

theorem enableFlags_refused (raises : Raises s.agent.params s.events g set) (empty : s.events.reports = [])
    (accepts : (s.ports.get s.agent.params.reportSide).state.accepts = true)
    (full : ¬s.Room s.agent.params.reportSide)
    (line : ∀ y ∈ s.queues.frames.get s.agent.params.reportSide, y.frame.cls < s.agent.params.mgmtClass →
      y.onLine = true)
    (pool : 48 ≤ s.queues.frames.a.length + s.queues.frames.b.length) :
    (s.enableFlags g set).events.flags = (s.events.mark .poolFull).flags := by
  have fixed := fixSnapshots_raises (now := s.now) raises (by simp [empty]) (by simp [empty])
  have settled : State.fixSnapshots { s with events := s.events.setEnables s.agent.params s.now g set } =
      { s with events := _ } := congrArg (fun ev => { s with events := ev }) fixed
  have one : (s.events.setEnables s.agent.params s.now g set).fixSnapshots.reports =
      [{ made g (s.agent.params.levels.get g) s.now s.events with making := false }] := by
    rw [fixed, empty]
    rfl
  unfold State.enableFlags
  rw [settle_due (s := { s with events := s.events.setEnables s.agent.params s.now g set }) one
    (congrArg List.isEmpty empty) rfl raises.station, settled, empty]
  exact sendReport_poolFull (s := { s with events := _ }) accepts full line pool (show 1 < 8 by decide)

end Sys2Proof.Machine.ConfigLaws
end

section
/-! The configuration commands settled (R156, R159, R176, R177). -/

namespace Sys2Proof.Machine.ConfigLaws

open DeliveryLaws ForwardLaws SettingsLaws AgentLaws ReportLaws

variable {s d u : State} {m : Arrival} {seq item vh vl h l : Byte} {x : Session} {c : FClass} {i : ParamId}
  {v set : BitVec 16} {g : Group}

/-! ## ENABLE_EVENTS, its event (R177) -/

theorem respond_enables (s : State) (m : Arrival) (r : Response) :
    (s.respond m r).events.enables = s.events.enables := by
  obtain ⟨u, ⟨q, ev, rfl, -, kept⟩, e | e⟩ := State.respond_cases (s := s) m r <;> rw [e] <;> exact kept

theorem settle_enables (s : State) : s.settle.events.enables = s.events.enables := by
  obtain ⟨q, ev, e, -, kept⟩ := s.grows_settle
  rw [e, ← kept]

/-- The end of a command keeps the enables. -/
theorem finish_enables (s : State) (first : Bool) (m : Arrival) (r : Response) :
    (s.finish first m r).settle.events.enables = s.events.enables := by
  obtain ⟨y, kept⟩ := keepResponse_session s m r
  rw [settle_enables]
  unfold State.finish
  dsimp only
  rw [kept, respond_enables]
  split
  · exact settle_enables _
  · rfl

/-- What ENABLE_EVENTS answers: the group as it stands after its rule. -/
def enabledAnswer (seq : Byte) (g : Group) (set : BitVec 16) (d : State) : Response :=
  ⟨seq, 0x1A, .ok, groupShown d.agent.params g ((d.enableFlags g set).events.flags.get g) set⟩

theorem readout_enableFlags (d : State) (g : Group) (set : BitVec 16) :
    (d.enableFlags g set).groupReadout g =
      groupShown d.agent.params g ((d.enableFlags g set).events.flags.get g) set := by
  rw [groupReadout_eq, enableFlags_params, enableFlags_enables]

theorem exec_enableEvents (hears : s.HearsOwner m seq x) (defined : (h ++ l) &&& ~~~(Events.allFlags.get g) = 0) :
    ∃ t, exec (.enableEvents m seq [g.code, h, l]) s = .next t ∧ t.events.enables.get g = h ++ l ∧
      t.steady =
        { s.steady with
          session := some (x.answered s.now m.side (enabledAnswer seq g (h ++ l) (s.delivered m))) } := by
  have ⟨_, session, own, _⟩ := hears
  have run := enableEvents_run defined (s.delivered m)
  rw [readout_enableFlags] at run
  have row := addressed_owner (args := [g.code, h, l]) (c := enableEventsCommand [g.code, h, l]) hears rfl
  rw [run] at row
  have part : ((s.delivered m).enableFlags g (h ++ l)).steady = s.steady :=
    enableFlags_steady.trans (State.steady_delivered s m)
  have holder : ((s.delivered m).enableFlags g (h ++ l)).agent.session = some x :=
    (congrArg Steady.session part).trans session
  have clock : ((s.delivered m).enableFlags g (h ++ l)).now = s.now := congrArg Steady.now part
  refine ⟨_, row, ?_, ?_⟩
  · rw [finish_enables]
    exact enableFlags_enables
  · rw [finish_owner_steady holder own, part, clock]
    rfl

/-- ENABLE_EVENTS whose rule leaves nothing to settle and room for the response. -/
theorem exec_enableEvents_room (hears : s.HearsOwner m seq x)
    (defined : (h ++ l) &&& ~~~(Events.allFlags.get g) = 0)
    (rule : (s.delivered m).enableFlags g (h ++ l) = u) (flags : u.events.flags = s.events.flags) (quiet : u.Quiet)
    (room : u.Room m.side) :
    exec (.enableEvents m seq [g.code, h, l]) s =
      .next (u.answeredBy m ⟨seq, 0x1A, .ok, groupShown s.agent.params g (s.events.flags.get g) (h ++ l)⟩) := by
  have run := enableEvents_run defined (s.delivered m)
  rw [readout_enableFlags, rule, flags] at run
  exact owner_answered (args := [g.code, h, l]) hears rfl run quiet room

theorem delivered_state (s : State) (m : Arrival) (side : Side) :
    ((s.delivered m).ports.get side).state = (s.ports.get side).state :=
  congrArg PortView.state (SideLaws.delivered_port s m side).1

/-- POOL_FULL among the flags of a group. -/
theorem mark_poolFull (ev : Events) (g : Group) :
    (ev.mark .poolFull).flags.get g = if g = .traffic then ev.flags.traffic ||| 1 else ev.flags.get g := by
  cases g <;> rfl

/-! ## The four commands -/

/-- Settles O46, command by command. -/
theorem configurationCommands : Obligations.ConfigurationCommands := by
  unfold Obligations.ConfigurationCommands
  rintro m seq x s d hears rfl
  have ⟨_, session, own, _⟩ := hears
  refine ⟨?_, fun k quiet room => ⟨exec_clearCounters_set hears quiet room k, clearSet_uncounted _ k, ?_⟩,
    exec_clearCounters_all hears, ?_, ?_⟩
  · intro item vh vl v i named word low high fits foreign r
    subst word
    have admits : i.admits (vh ++ vl) = true := admits_iff.2 ⟨low, high⟩
    have lets : s.refusesConfig i (vh ++ vl) = false := refusesConfig_false session high fits foreign
    obtain ⟨first, row⟩ := exec_setConfig hears named admits lets
    refine ⟨_, s.agent.params.withValue i (vh ++ vl), row, value_withValue_same _ admits,
      fun j other => value_withValue_other _ _ other, fun other quiet room => ?_, fun c age => ?_, ?_⟩
    · exact finish_configure_other (s := s.delivered m) other quiet room first r
    · subst age
      exact ⟨fun gone => finish_configure_stale (s := s.delivered m) gone first r,
        fun unreported room => finish_configure_ageLimit (s := s.delivered m) unreported room first r⟩
    · rw [finish_configure_steady (s := s.delivered m) session own, State.steady_delivered]
      rfl
  · intro j cs found
    by_cases same : j = k
    · subst same
      rw [if_pos rfl]
      exact counterSet_clearSet_same found
    · rw [if_neg same, counterSet_clearSet_other same]
      exact found
  · intro g h l defined quiet room
    exact ⟨_, rfl, exec_clearEvents hears defined quiet room⟩
  · intro g h l defined shown on raises r made
    have rises : raises ↔ Raises s.agent.params s.events g (h ++ l) :=
      ⟨fun ⟨before, after, station⟩ => ⟨before, after, station⟩,
        fun ⟨before, after, station⟩ => ⟨before, after, station⟩⟩
    obtain ⟨t, row, enabled, steady⟩ := exec_enableEvents hears defined
    refine ⟨fun calm quiet room => ?_, fun raise quiet behind few room => ?_, fun raise empty toward room => ?_,
      fun raise empty accepts full line pool => ⟨t, row, ?_⟩, t, _, row, enabled, steady⟩
    · exact exec_enableEvents_room hears defined (enableFlags_calm (s := s.delivered m) (mt rises.2 calm) quiet) rfl
        quiet (delivered_room room)
    · obtain ⟨rule, still⟩ := enableFlags_waits (s := s.delivered m) (rises.1 raise) quiet behind few
      exact exec_enableEvents_room hears defined rule rfl still (delivered_room room)
    · obtain ⟨rule, still⟩ := enableFlags_sends (s := s.delivered m) (rises.1 raise) empty (delivered_room toward)
      exact exec_enableEvents_room hears defined rule rfl still room
    · have refused := enableFlags_refused (s := s.delivered m) (rises.1 raise) empty
        ((congrArg _ (delivered_state s m _)).trans accepts)
        (mt (room_congr (t := s.delivered m) (delivered_state s m) rfl rfl).1 full) line pool
      rw [steady, enabledAnswer, refused, mark_poolFull]
      rfl

end Sys2Proof.Machine.ConfigLaws
end
